-- ==== Sys2Proof/Word.lean ====
section
/-! DEFINITION. The words of the block (10_state.md R32, 30_encoding.md R101) and the values of binary32 (00_scope.md R11, R12). -/

namespace Sys2Proof

/-- A 32-bit register or the data of a transaction (20_memory.md R82). -/
abbrev Word := BitVec 32

/-- A byte, and also a byte offset of the register offset space (20_memory.md R80). -/
abbrev Byte := BitVec 8

/-- A transaction word, 41 bits: WE = bit 40, ADDR = bits 39..32, DATA = bits 31..0 (30_encoding.md R101). -/
abbrev TW := BitVec 41

/-- The value a binary32 encoding stands for (00_scope.md R11). `fin neg mag` is the real number
±mag · 2^-149: every finite binary32 value is such a multiple of the least subnormal, and the sign of
zero is kept. All NaN encodings are one value (log 7). -/
inductive F32 where
  | nan
  | inf (neg : Bool)
  | fin (neg : Bool) (mag : Nat)
  deriving DecidableEq, Repr

end Sys2Proof
end

