-- ==== Sys2Proof/Config.lean ====
section
/-! DEFINITION. The parameters one instance of the block fixes (00_scope.md R6, R7), and the free values: opaque constants without a body. -/

namespace Sys2Proof.Config

/-- The build parameters of 00_scope.md R6 and R7 that a rule of the block reads. The structural ones
(TS_WIDTH, N_EDGES, the ranges, the two reset durations) have one value and stand where they are used;
BASE is never seen by the block (20_memory.md R81); COS is `cosChoice`. -/
structure Params where
  /-- CLK_PER_US: clock cycles per microsecond, an integer from 1 up. -/
  clkPerUs : Nat
  /-- KP, the proportional gain (binary32 image). -/
  kp : Word
  /-- KI_DIV, the integrator divisor (binary32 image). -/
  kiDiv : Word
  /-- LUX_DIV1, the first luminosity divisor (binary32 image). -/
  luxDiv1 : Word
  /-- LUX_DIV2, the second luminosity divisor (binary32 image). -/
  luxDiv2 : Word
  /-- OUT_MAX, the upper clamp of the drive value (binary32 image). -/
  outMax : Word
  /-- TWO_PI, the constant 2π of the setpoint formula (binary32 image). -/
  twoPi : Word
  deriving DecidableEq, Repr

/-- CLK_PER_US less one: free, since 00_scope.md R6 leaves CLK_PER_US open (DESIGN CHOICE of the form, log 4; safe). -/
opaque clkPerUsLess1 : Nat

/-- The cosine before the conditions of 00_scope.md R7 are imposed: free (log 6; safe). -/
opaque cosChoice : Word → Word

/-- The level of the data wire in a cycle for which `State.pending` holds no input record: free
(00_scope.md R5, 93_implementation_defined.md I12; log 2; safe). -/
opaque freeLine : Nat → Bool

/-- The reset input in a cycle for which `State.pending` holds no input record: free (log 2; safe). -/
opaque freeRst : Nat → Bool

/-- The host's request in a cycle for which `State.pending` holds no input record: free (log 2; safe). -/
opaque freeRequest : Nat → Option TW

/-- The sign and payload of the image of a NaN of which nothing else is known: free, among the NaN encodings (00_scope.md R11;
log 7; safe). No register takes it. -/
opaque nanImage : Word

/-- The sign and payload of a NaN that PIC_LUX stores, by LUX_DIV1, LUX_DIV2 and the raw count: free, among the NaN encodings
(00_scope.md R11; log 7; safe). -/
opaque luxNan : Word → Word → BitVec 16 → Word

/-- u8 of a drive value outside [0, 255]: free, since 00_scope.md R13 defines u8 only inside; no
default build reaches it (log 8; safe). -/
opaque freeU8 : Word → Byte

/-- The parameters with the spec's defaults for the gains (00_scope.md R7) and the given CLK_PER_US. -/
def defaultGains (clk : Nat) : Params where
  clkPerUs := clk
  kp := 0x3F4CCCCD#32
  kiDiv := 0x43480000#32
  luxDiv1 := 0x3F99999A#32
  luxDiv2 := 0x40000000#32
  outMax := 0x437F0000#32
  twoPi := 0x40C90FDB#32

/-- The instance `State.reset` describes: any CLK_PER_US from 1 up (log 4), the default gains (log 5). -/
def build : Params := defaultGains (clkPerUsLess1 + 1)

/-- How the host reads the temperature word: the open parameter TEMP_FORMAT of 10_state.md R46, which no
rule of the block reads (90_conflicts.md C3). -/
inductive TempFormat where
  | signMagnitude
  | twosComplement
  deriving DecidableEq, Repr

end Sys2Proof.Config
end

