-- ==== Sys2Proof/Syntax.lean ====
section
/-! DEFINITION. The registers (10_state.md R32) and the instructions: one constructor of Instr for each row of
spec/opcode_table.json, in the table's order. An instruction is one host bus transaction (30_encoding.md R100). -/

namespace Sys2Proof

/-- The mapped registers, in the order of the map of 10_state.md R32. -/
inductive Reg where
  | cmd
  | status
  | irqEn
  | swdEdges
  | swdHumid
  | swdTemp
  | swdCsum
  | swdTstart
  | swdTimeout
  | ts
  | picS
  | picD
  | picA
  | picHour
  | picLuxin
  | picConsigne
  | picLux
  | picLuxraw
  | picInteg
  | picOutput
  | picPwm
  deriving DecidableEq, Repr

/-- One constructor per row of spec/opcode_table.json. A bus error keeps the whole transaction (20_memory.md R84),
a write and an illegal command keep DATA (40_cycle_and_bus.md R140, R143), a read and a legal command have no
operand (R139, 30_encoding.md R105): DATA of a read is ignored (R101, log 11). -/
inductive Instr where
  /-- BUS_ERROR, row 1: misaligned, ADDR[0] = 1 (rule R84). -/
  | busErrorOdd (we : Bool) (addr : Byte) (data : Word)
  /-- BUS_ERROR, row 2: misaligned, ADDR[1] = 1 (rule R84). -/
  | busErrorHalf (we : Bool) (addr : Byte) (data : Word)
  /-- BUS_ERROR, row 3: unmapped, ADDR 0x54 to 0x57 (rule R84). -/
  | busErrorUnmapped54 (we : Bool) (addr : Byte) (data : Word)
  /-- BUS_ERROR, row 4: unmapped, ADDR 0x58 to 0x5F (rule R84). -/
  | busErrorUnmapped58 (we : Bool) (addr : Byte) (data : Word)
  /-- BUS_ERROR, row 5: unmapped, ADDR 0x60 to 0x7F (rule R84). -/
  | busErrorUnmapped60 (we : Bool) (addr : Byte) (data : Word)
  /-- BUS_ERROR, row 6: unmapped, ADDR 0x80 to 0xFF (rule R84). -/
  | busErrorUnmapped80 (we : Bool) (addr : Byte) (data : Word)
  /-- RD_CMD, row 7 (rule R139). -/
  | rdCmd
  /-- RD_STATUS, row 8 (rule R139). -/
  | rdStatus
  /-- RD_IRQ_EN, row 9 (rule R139). -/
  | rdIrqEn
  /-- RD_SWD_EDGES, row 10 (rule R139). -/
  | rdSwdEdges
  /-- RD_SWD_HUMID, row 11 (rule R139). -/
  | rdSwdHumid
  /-- RD_SWD_TEMP, row 12 (rule R139). -/
  | rdSwdTemp
  /-- RD_SWD_CSUM, row 13 (rule R139). -/
  | rdSwdCsum
  /-- RD_SWD_TSTART, row 14 (rule R139). -/
  | rdSwdTstart
  /-- RD_SWD_TIMEOUT, row 15 (rule R139). -/
  | rdSwdTimeout
  /-- RD_TS, row 16 (rule R139). -/
  | rdTs
  /-- RD_PIC_S, row 17 (rule R139). -/
  | rdPicS
  /-- RD_PIC_D, row 18 (rule R139). -/
  | rdPicD
  /-- RD_PIC_A, row 19 (rule R139). -/
  | rdPicA
  /-- RD_PIC_HOUR, row 20 (rule R139). -/
  | rdPicHour
  /-- RD_PIC_LUXIN, row 21 (rule R139). -/
  | rdPicLuxin
  /-- RD_PIC_CONSIGNE, row 22 (rule R139). -/
  | rdPicConsigne
  /-- RD_PIC_LUX, row 23 (rule R139). -/
  | rdPicLux
  /-- RD_PIC_LUXRAW, row 24 (rule R139). -/
  | rdPicLuxraw
  /-- RD_PIC_INTEG, row 25 (rule R139). -/
  | rdPicInteg
  /-- RD_PIC_OUTPUT, row 26 (rule R139). -/
  | rdPicOutput
  /-- RD_PIC_PWM, row 27 (rule R139). -/
  | rdPicPwm
  /-- NOP, row 28 (rule R142). -/
  | nop
  /-- SWD_START, row 29 (rule R190). -/
  | swdStart
  /-- PIC_SETPOINT, row 30 (rule R221). -/
  | picSetpoint
  /-- PIC_LUX, row 31 (rule R226). -/
  | picLux
  /-- PIC_REGULATE, row 32 (rule R229). -/
  | picRegulate
  /-- ILLEGAL_CMD, row 33 (rule R143). -/
  | illegalCmd (data : Word)
  /-- WR_STATUS, row 34 (rule R140). -/
  | wrStatus (data : Word)
  /-- WR_IRQ_EN, row 35 (rule R140). -/
  | wrIrqEn (data : Word)
  /-- WR_SWD_EDGES, row 36 (rule R140). -/
  | wrSwdEdges (data : Word)
  /-- WR_SWD_HUMID, row 37 (rule R140). -/
  | wrSwdHumid (data : Word)
  /-- WR_SWD_TEMP, row 38 (rule R140). -/
  | wrSwdTemp (data : Word)
  /-- WR_SWD_CSUM, row 39 (rule R140). -/
  | wrSwdCsum (data : Word)
  /-- WR_SWD_TSTART, row 40 (rule R140). -/
  | wrSwdTstart (data : Word)
  /-- WR_SWD_TIMEOUT, row 41 (rule R140). -/
  | wrSwdTimeout (data : Word)
  /-- WR_TS, row 42 (rule R140). -/
  | wrTs (data : Word)
  /-- WR_PIC_S, row 43 (rule R140). -/
  | wrPicS (data : Word)
  /-- WR_PIC_D, row 44 (rule R140). -/
  | wrPicD (data : Word)
  /-- WR_PIC_A, row 45 (rule R140). -/
  | wrPicA (data : Word)
  /-- WR_PIC_HOUR, row 46 (rule R140). -/
  | wrPicHour (data : Word)
  /-- WR_PIC_LUXIN, row 47 (rule R140). -/
  | wrPicLuxin (data : Word)
  /-- WR_PIC_CONSIGNE, row 48 (rule R140). -/
  | wrPicConsigne (data : Word)
  /-- WR_PIC_LUX, row 49 (rule R140). -/
  | wrPicLux (data : Word)
  /-- WR_PIC_LUXRAW, row 50 (rule R140). -/
  | wrPicLuxraw (data : Word)
  /-- WR_PIC_INTEG, row 51 (rule R140). -/
  | wrPicInteg (data : Word)
  /-- WR_PIC_OUTPUT, row 52 (rule R140). -/
  | wrPicOutput (data : Word)
  /-- WR_PIC_PWM, row 53 (rule R140). -/
  | wrPicPwm (data : Word)
  deriving DecidableEq, Repr

end Sys2Proof
end

