-- ==== Sys2Proof/WellFormed.lean ====
section
/-! DEFINITION. Which instructions an encoding admits: the operands that make a transaction reach its own row of
spec/opcode_table.json, "the first row that matches" (30_encoding.md R104). -/

namespace Sys2Proof

/-- ADDR is aligned: ADDR[1:0] = 0 (20_memory.md R83). -/
def alignedAddr (addr : Byte) : Bool := !addr.getLsbD 0 && !addr.getLsbD 1

/-- The operands of each constructor are those of its row and of no earlier one. A bus error's ADDR lies in its
row's range; an illegal command's DATA has DATA[31:8] ≠ 0 or DATA[7:0] ≥ 0x05 (40_cycle_and_bus.md R143); every
other operand is free. -/
def Instr.wellFormed : Instr → Bool
  | .busErrorOdd _ addr _ => addr.getLsbD 0
  | .busErrorHalf _ addr _ => !addr.getLsbD 0 && addr.getLsbD 1
  | .busErrorUnmapped54 _ addr _ => alignedAddr addr && addr &&& 0xFC#8 == 0x54#8
  | .busErrorUnmapped58 _ addr _ => alignedAddr addr && addr &&& 0xF8#8 == 0x58#8
  | .busErrorUnmapped60 _ addr _ => alignedAddr addr && addr &&& 0xE0#8 == 0x60#8
  | .busErrorUnmapped80 _ addr _ => alignedAddr addr && addr.getLsbD 7
  | .illegalCmd data => data.extractLsb' 8 24 != 0#24 || decide (4 < (data.extractLsb' 0 8).toNat)
  | .rdCmd => true
  | .rdStatus => true
  | .rdIrqEn => true
  | .rdSwdEdges => true
  | .rdSwdHumid => true
  | .rdSwdTemp => true
  | .rdSwdCsum => true
  | .rdSwdTstart => true
  | .rdSwdTimeout => true
  | .rdTs => true
  | .rdPicS => true
  | .rdPicD => true
  | .rdPicA => true
  | .rdPicHour => true
  | .rdPicLuxin => true
  | .rdPicConsigne => true
  | .rdPicLux => true
  | .rdPicLuxraw => true
  | .rdPicInteg => true
  | .rdPicOutput => true
  | .rdPicPwm => true
  | .nop => true
  | .swdStart => true
  | .picSetpoint => true
  | .picLux => true
  | .picRegulate => true
  | .wrStatus _ => true
  | .wrIrqEn _ => true
  | .wrSwdEdges _ => true
  | .wrSwdHumid _ => true
  | .wrSwdTemp _ => true
  | .wrSwdCsum _ => true
  | .wrSwdTstart _ => true
  | .wrSwdTimeout _ => true
  | .wrTs _ => true
  | .wrPicS _ => true
  | .wrPicD _ => true
  | .wrPicA _ => true
  | .wrPicHour _ => true
  | .wrPicLuxin _ => true
  | .wrPicConsigne _ => true
  | .wrPicLux _ => true
  | .wrPicLuxraw _ => true
  | .wrPicInteg _ => true
  | .wrPicOutput _ => true
  | .wrPicPwm _ => true

end Sys2Proof
end

