-- ==== Sys2Proof/Decode.lean ====
section
/-! DEFINITION. Decoding a transaction word (30_encoding.md R100 to R104), the opcode table as rows, the bytes of a
word (log 1), and the encoder. -/

namespace Sys2Proof

/-- The byte offset of a register (10_state.md R32). -/
def Reg.offset : Reg → Byte
  | .cmd => 0x00#8
  | .status => 0x04#8
  | .irqEn => 0x08#8
  | .swdEdges => 0x0C#8
  | .swdHumid => 0x10#8
  | .swdTemp => 0x14#8
  | .swdCsum => 0x18#8
  | .swdTstart => 0x1C#8
  | .swdTimeout => 0x20#8
  | .ts => 0x24#8
  | .picS => 0x28#8
  | .picD => 0x2C#8
  | .picA => 0x30#8
  | .picHour => 0x34#8
  | .picLuxin => 0x38#8
  | .picConsigne => 0x3C#8
  | .picLux => 0x40#8
  | .picLuxraw => 0x44#8
  | .picInteg => 0x48#8
  | .picOutput => 0x4C#8
  | .picPwm => 0x50#8

/-- The register at a byte offset; none for a misaligned or unmapped offset (20_memory.md R83, R84). -/
def Reg.ofOffset (addr : Byte) : Option Reg :=
  match addr.toNat with
  | 0x00 => some .cmd
  | 0x04 => some .status
  | 0x08 => some .irqEn
  | 0x0C => some .swdEdges
  | 0x10 => some .swdHumid
  | 0x14 => some .swdTemp
  | 0x18 => some .swdCsum
  | 0x1C => some .swdTstart
  | 0x20 => some .swdTimeout
  | 0x24 => some .ts
  | 0x28 => some .picS
  | 0x2C => some .picD
  | 0x30 => some .picA
  | 0x34 => some .picHour
  | 0x38 => some .picLuxin
  | 0x3C => some .picConsigne
  | 0x40 => some .picLux
  | 0x44 => some .picLuxraw
  | 0x48 => some .picInteg
  | 0x4C => some .picOutput
  | 0x50 => some .picPwm
  | _ => none

/-- The BUS_ERROR row of a misaligned or unmapped offset: the first of the table's six that matches
(opcode_table.json, priorities 1 to 6). -/
def decodeBusError (we : Bool) (addr : Byte) (data : Word) : Instr :=
  if addr.getLsbD 0 then .busErrorOdd we addr data
  else if addr.getLsbD 1 then .busErrorHalf we addr data
  else if addr &&& 0xFC#8 = 0x54#8 then .busErrorUnmapped54 we addr data
  else if addr &&& 0xF8#8 = 0x58#8 then .busErrorUnmapped58 we addr data
  else if addr &&& 0xE0#8 = 0x60#8 then .busErrorUnmapped60 we addr data
  else .busErrorUnmapped80 we addr data

/-- The read of a mapped register (30_encoding.md R104, REG_READ). -/
def decodeRead : Reg → Instr
  | .cmd => .rdCmd
  | .status => .rdStatus
  | .irqEn => .rdIrqEn
  | .swdEdges => .rdSwdEdges
  | .swdHumid => .rdSwdHumid
  | .swdTemp => .rdSwdTemp
  | .swdCsum => .rdSwdCsum
  | .swdTstart => .rdSwdTstart
  | .swdTimeout => .rdSwdTimeout
  | .ts => .rdTs
  | .picS => .rdPicS
  | .picD => .rdPicD
  | .picA => .rdPicA
  | .picHour => .rdPicHour
  | .picLuxin => .rdPicLuxin
  | .picConsigne => .rdPicConsigne
  | .picLux => .rdPicLux
  | .picLuxraw => .rdPicLuxraw
  | .picInteg => .rdPicInteg
  | .picOutput => .rdPicOutput
  | .picPwm => .rdPicPwm

/-- A write of CMD: the command of a command word, or ILLEGAL_CMD (30_encoding.md R102 to R104). -/
def decodeCommand (data : Word) : Instr :=
  match data.toNat with
  | 0 => .nop
  | 1 => .swdStart
  | 2 => .picSetpoint
  | 3 => .picLux
  | 4 => .picRegulate
  | _ => .illegalCmd data

/-- The write of a mapped register (30_encoding.md R104): a command for CMD, a REG_WRITE else. -/
def decodeWrite (data : Word) : Reg → Instr
  | .cmd => decodeCommand data
  | .status => .wrStatus data
  | .irqEn => .wrIrqEn data
  | .swdEdges => .wrSwdEdges data
  | .swdHumid => .wrSwdHumid data
  | .swdTemp => .wrSwdTemp data
  | .swdCsum => .wrSwdCsum data
  | .swdTstart => .wrSwdTstart data
  | .swdTimeout => .wrSwdTimeout data
  | .ts => .wrTs data
  | .picS => .wrPicS data
  | .picD => .wrPicD data
  | .picA => .wrPicA data
  | .picHour => .wrPicHour data
  | .picLuxin => .wrPicLuxin data
  | .picConsigne => .wrPicConsigne data
  | .picLux => .wrPicLux data
  | .picLuxraw => .wrPicLuxraw data
  | .picInteg => .wrPicInteg data
  | .picOutput => .wrPicOutput data
  | .picPwm => .wrPicPwm data

/-- The field WE of a transaction word (30_encoding.md R101). -/
def weOf (tw : TW) : Bool := tw.getLsbD 40

/-- The field ADDR of a transaction word (30_encoding.md R101). -/
def addrOf (tw : TW) : Byte := tw.extractLsb' 32 8

/-- The field DATA of a transaction word (30_encoding.md R101). -/
def dataOf (tw : TW) : Word := tw.extractLsb' 0 32

/-- A transaction word from its fields: `TW = WE·2^40 + ADDR·2^32 + DATA` (30_encoding.md R101). -/
def packTW (we : Bool) (addr : Byte) (data : Word) : TW := BitVec.ofBool we ++ addr ++ data

/-- The operation a transaction selects, in the order of precedence of 30_encoding.md R104. -/
def decodeFields (we : Bool) (addr : Byte) (data : Word) : Instr :=
  match Reg.ofOffset addr with
  | none => decodeBusError we addr data
  | some r => if we then decodeWrite data r else decodeRead r

/-- Decoding is total: every 41-bit word selects exactly one operation (30_encoding.md R104). -/
def decodeTW (tw : TW) : Instr := decodeFields (weOf tw) (addrOf tw) (dataOf tw)

/-- Why bytes are no transaction word: a decoder over bytes rejects them by these names (log 1). -/
inductive DecodeReject where
  /-- Not six bytes: every TW has the same length (30_encoding.md R100). -/
  | wrongLength
  /-- A bit above bit 40 is 1: the six bytes hold a number of more than 41 bits. -/
  | bitsAboveTW
  deriving DecidableEq, Repr

/-- The least significant `n` bytes of a number, the least significant first. -/
def leBytes : Nat → Nat → List Byte
  | 0, _ => []
  | n + 1, w => BitVec.ofNat 8 w :: leBytes n (w / 256)

/-- The number whose bytes, the least significant first, are given. -/
def leNat : List Byte → Nat
  | [] => 0
  | b :: bs => b.toNat + 256 * leNat bs

/-- Decoding six bytes, the least significant first (log 1). -/
def decodeBytes (bs : List Byte) : Except DecodeReject Instr :=
  if bs.length ≠ 6 then .error .wrongLength
  else if 2 ^ 41 ≤ leNat bs then .error .bitsAboveTW
  else .ok (decodeTW (BitVec.ofNat 41 (leNat bs)))

/-- The instruction the decoder reads from an instruction whose bits are `w`, numbered as
spec/opcode_table.json numbers them; the bits from `nbits` up are 0. -/
def decodeTableWord (nbits w : Nat) : Option Instr :=
  if w % 2 ^ nbits < 2 ^ 48 then (decodeBytes (leBytes 6 (w % 2 ^ nbits))).toOption else none

/-- One row of spec/opcode_table.json: a word is the row's if `tw AND mask = pattern`. -/
structure OpcodeRow where
  priority : Nat
  mask : TW
  pattern : TW
  deriving DecidableEq, Repr

/-- The BUS_ERROR rows and the reads: opcode_table.json, priorities 1 to 27. -/
def readRows : List OpcodeRow :=
  [ ⟨1, 0x00100000000#41, 0x00100000000#41⟩,
    ⟨2, 0x00200000000#41, 0x00200000000#41⟩,
    ⟨3, 0x0FC00000000#41, 0x05400000000#41⟩,
    ⟨4, 0x0F800000000#41, 0x05800000000#41⟩,
    ⟨5, 0x0E000000000#41, 0x06000000000#41⟩,
    ⟨6, 0x08000000000#41, 0x08000000000#41⟩,
    ⟨7, 0x1FF00000000#41, 0x00000000000#41⟩,
    ⟨8, 0x1FF00000000#41, 0x00400000000#41⟩,
    ⟨9, 0x1FF00000000#41, 0x00800000000#41⟩,
    ⟨10, 0x1FF00000000#41, 0x00C00000000#41⟩,
    ⟨11, 0x1FF00000000#41, 0x01000000000#41⟩,
    ⟨12, 0x1FF00000000#41, 0x01400000000#41⟩,
    ⟨13, 0x1FF00000000#41, 0x01800000000#41⟩,
    ⟨14, 0x1FF00000000#41, 0x01C00000000#41⟩,
    ⟨15, 0x1FF00000000#41, 0x02000000000#41⟩,
    ⟨16, 0x1FF00000000#41, 0x02400000000#41⟩,
    ⟨17, 0x1FF00000000#41, 0x02800000000#41⟩,
    ⟨18, 0x1FF00000000#41, 0x02C00000000#41⟩,
    ⟨19, 0x1FF00000000#41, 0x03000000000#41⟩,
    ⟨20, 0x1FF00000000#41, 0x03400000000#41⟩,
    ⟨21, 0x1FF00000000#41, 0x03800000000#41⟩,
    ⟨22, 0x1FF00000000#41, 0x03C00000000#41⟩,
    ⟨23, 0x1FF00000000#41, 0x04000000000#41⟩,
    ⟨24, 0x1FF00000000#41, 0x04400000000#41⟩,
    ⟨25, 0x1FF00000000#41, 0x04800000000#41⟩,
    ⟨26, 0x1FF00000000#41, 0x04C00000000#41⟩,
    ⟨27, 0x1FF00000000#41, 0x05000000000#41⟩ ]

/-- The commands and the writes: opcode_table.json, priorities 28 to 53. -/
def writeRows : List OpcodeRow :=
  [ ⟨28, 0x1FFFFFFFFFF#41, 0x10000000000#41⟩,
    ⟨29, 0x1FFFFFFFFFF#41, 0x10000000001#41⟩,
    ⟨30, 0x1FFFFFFFFFF#41, 0x10000000002#41⟩,
    ⟨31, 0x1FFFFFFFFFF#41, 0x10000000003#41⟩,
    ⟨32, 0x1FFFFFFFFFF#41, 0x10000000004#41⟩,
    ⟨33, 0x1FF00000000#41, 0x10000000000#41⟩,
    ⟨34, 0x1FF00000000#41, 0x10400000000#41⟩,
    ⟨35, 0x1FF00000000#41, 0x10800000000#41⟩,
    ⟨36, 0x1FF00000000#41, 0x10C00000000#41⟩,
    ⟨37, 0x1FF00000000#41, 0x11000000000#41⟩,
    ⟨38, 0x1FF00000000#41, 0x11400000000#41⟩,
    ⟨39, 0x1FF00000000#41, 0x11800000000#41⟩,
    ⟨40, 0x1FF00000000#41, 0x11C00000000#41⟩,
    ⟨41, 0x1FF00000000#41, 0x12000000000#41⟩,
    ⟨42, 0x1FF00000000#41, 0x12400000000#41⟩,
    ⟨43, 0x1FF00000000#41, 0x12800000000#41⟩,
    ⟨44, 0x1FF00000000#41, 0x12C00000000#41⟩,
    ⟨45, 0x1FF00000000#41, 0x13000000000#41⟩,
    ⟨46, 0x1FF00000000#41, 0x13400000000#41⟩,
    ⟨47, 0x1FF00000000#41, 0x13800000000#41⟩,
    ⟨48, 0x1FF00000000#41, 0x13C00000000#41⟩,
    ⟨49, 0x1FF00000000#41, 0x14000000000#41⟩,
    ⟨50, 0x1FF00000000#41, 0x14400000000#41⟩,
    ⟨51, 0x1FF00000000#41, 0x14800000000#41⟩,
    ⟨52, 0x1FF00000000#41, 0x14C00000000#41⟩,
    ⟨53, 0x1FF00000000#41, 0x15000000000#41⟩ ]

/-- The opcode table in its order of precedence (30_encoding.md R104). -/
def opcodeRows : List OpcodeRow := readRows ++ writeRows

/-- Whether a word is a row's. -/
def OpcodeRow.hit (r : OpcodeRow) (tw : TW) : Bool := tw &&& r.mask == r.pattern

/-- "A TW is decoded by the first row, in that order, for which `TW AND mask = match`" (30_encoding.md R104). -/
def firstRow (tw : TW) : Option OpcodeRow := opcodeRows.find? fun r => r.hit tw

/-- The table's row, by its priority, that a constructor stands for. -/
def Instr.row : Instr → Nat
  | .busErrorOdd _ _ _ => 1
  | .busErrorHalf _ _ _ => 2
  | .busErrorUnmapped54 _ _ _ => 3
  | .busErrorUnmapped58 _ _ _ => 4
  | .busErrorUnmapped60 _ _ _ => 5
  | .busErrorUnmapped80 _ _ _ => 6
  | .rdCmd => 7
  | .rdStatus => 8
  | .rdIrqEn => 9
  | .rdSwdEdges => 10
  | .rdSwdHumid => 11
  | .rdSwdTemp => 12
  | .rdSwdCsum => 13
  | .rdSwdTstart => 14
  | .rdSwdTimeout => 15
  | .rdTs => 16
  | .rdPicS => 17
  | .rdPicD => 18
  | .rdPicA => 19
  | .rdPicHour => 20
  | .rdPicLuxin => 21
  | .rdPicConsigne => 22
  | .rdPicLux => 23
  | .rdPicLuxraw => 24
  | .rdPicInteg => 25
  | .rdPicOutput => 26
  | .rdPicPwm => 27
  | .nop => 28
  | .swdStart => 29
  | .picSetpoint => 30
  | .picLux => 31
  | .picRegulate => 32
  | .illegalCmd _ => 33
  | .wrStatus _ => 34
  | .wrIrqEn _ => 35
  | .wrSwdEdges _ => 36
  | .wrSwdHumid _ => 37
  | .wrSwdTemp _ => 38
  | .wrSwdCsum _ => 39
  | .wrSwdTstart _ => 40
  | .wrSwdTimeout _ => 41
  | .wrTs _ => 42
  | .wrPicS _ => 43
  | .wrPicD _ => 44
  | .wrPicA _ => 45
  | .wrPicHour _ => 46
  | .wrPicLuxin _ => 47
  | .wrPicConsigne _ => 48
  | .wrPicLux _ => 49
  | .wrPicLuxraw _ => 50
  | .wrPicInteg _ => 51
  | .wrPicOutput _ => 52
  | .wrPicPwm _ => 53

/-- The transaction word of an instruction (30_encoding.md R101, R103, 10_state.md R32); DATA of a read is 0, as in
canonical read words (R101). -/
def encode : Instr → TW
  | .busErrorOdd we addr data => packTW we addr data
  | .busErrorHalf we addr data => packTW we addr data
  | .busErrorUnmapped54 we addr data => packTW we addr data
  | .busErrorUnmapped58 we addr data => packTW we addr data
  | .busErrorUnmapped60 we addr data => packTW we addr data
  | .busErrorUnmapped80 we addr data => packTW we addr data
  | .rdCmd => packTW false 0x00#8 0#32
  | .rdStatus => packTW false 0x04#8 0#32
  | .rdIrqEn => packTW false 0x08#8 0#32
  | .rdSwdEdges => packTW false 0x0C#8 0#32
  | .rdSwdHumid => packTW false 0x10#8 0#32
  | .rdSwdTemp => packTW false 0x14#8 0#32
  | .rdSwdCsum => packTW false 0x18#8 0#32
  | .rdSwdTstart => packTW false 0x1C#8 0#32
  | .rdSwdTimeout => packTW false 0x20#8 0#32
  | .rdTs => packTW false 0x24#8 0#32
  | .rdPicS => packTW false 0x28#8 0#32
  | .rdPicD => packTW false 0x2C#8 0#32
  | .rdPicA => packTW false 0x30#8 0#32
  | .rdPicHour => packTW false 0x34#8 0#32
  | .rdPicLuxin => packTW false 0x38#8 0#32
  | .rdPicConsigne => packTW false 0x3C#8 0#32
  | .rdPicLux => packTW false 0x40#8 0#32
  | .rdPicLuxraw => packTW false 0x44#8 0#32
  | .rdPicInteg => packTW false 0x48#8 0#32
  | .rdPicOutput => packTW false 0x4C#8 0#32
  | .rdPicPwm => packTW false 0x50#8 0#32
  | .nop => packTW true 0x00#8 0#32
  | .swdStart => packTW true 0x00#8 1#32
  | .picSetpoint => packTW true 0x00#8 2#32
  | .picLux => packTW true 0x00#8 3#32
  | .picRegulate => packTW true 0x00#8 4#32
  | .illegalCmd data => packTW true 0x00#8 data
  | .wrStatus data => packTW true 0x04#8 data
  | .wrIrqEn data => packTW true 0x08#8 data
  | .wrSwdEdges data => packTW true 0x0C#8 data
  | .wrSwdHumid data => packTW true 0x10#8 data
  | .wrSwdTemp data => packTW true 0x14#8 data
  | .wrSwdCsum data => packTW true 0x18#8 data
  | .wrSwdTstart data => packTW true 0x1C#8 data
  | .wrSwdTimeout data => packTW true 0x20#8 data
  | .wrTs data => packTW true 0x24#8 data
  | .wrPicS data => packTW true 0x28#8 data
  | .wrPicD data => packTW true 0x2C#8 data
  | .wrPicA data => packTW true 0x30#8 data
  | .wrPicHour data => packTW true 0x34#8 data
  | .wrPicLuxin data => packTW true 0x38#8 data
  | .wrPicConsigne data => packTW true 0x3C#8 data
  | .wrPicLux data => packTW true 0x40#8 data
  | .wrPicLuxraw data => packTW true 0x44#8 data
  | .wrPicInteg data => packTW true 0x48#8 data
  | .wrPicOutput data => packTW true 0x4C#8 data
  | .wrPicPwm data => packTW true 0x50#8 data

/-- The six bytes of an instruction, the least significant first (log 1). -/
def encodeBytes (i : Instr) : List Byte := leBytes 6 (encode i).toNat

/-- The word with the DATA of a read of a mapped register cleared: the canonical word (30_encoding.md R101). -/
def canonicalTW (tw : TW) : TW :=
  match weOf tw, Reg.ofOffset (addrOf tw) with
  | false, some _ => packTW false (addrOf tw) 0#32
  | _, _ => tw

end Sys2Proof
end

