-- ==== Sys2Proof/Machine/State.lean ====
section
/-! DEFINITION. The state of the block as plain data (10_state.md R30 to R68), its reset value (70_reset_and_hazards.md
R291), the errors of 60_exceptions.md R261, and the reasons a step could stop (there are none). -/

namespace Sys2Proof.Machine

/-- STATUS.SWD_RESULT (10_state.md R35). -/
inductive SwdResult where
  | none
  | valid
  | timeout
  | checksumMismatch
  deriving DecidableEq, Repr

/-- STATUS.SWD_STATE (10_state.md R36). -/
inductive SwdState where
  | idle
  | requesting
  | listening
  | decoding
  deriving DecidableEq, Repr

/-- The fields of STATUS (10_state.md R34). The reserved bits [31:16] hold nothing and read 0. -/
structure Status where
  /-- SWD_RESULT, bits [1:0]. -/
  result : SwdResult
  /-- SWD_STATE, bits [3:2]. -/
  fsm : SwdState
  /-- SWD_DATA_VALID, bit 4. -/
  dataValid : Bool
  /-- SWD_DONE, bit 5, W1C. -/
  done : Bool
  /-- SWD_EDGE0_LEVEL, bit 6. -/
  edge0Level : Bool
  /-- PIC_LUX_VALID, bit 7. -/
  luxValid : Bool
  /-- ERR_ILLEGAL_CMD, bit 8, W1C. -/
  errIllegalCmd : Bool
  /-- ERR_START_BUSY, bit 9, W1C. -/
  errStartBusy : Bool
  /-- PIC_LUX_SHORT, bit 10, W1C. -/
  luxShort : Bool
  /-- PIC_CFG_ERR, bit 11, W1C. -/
  cfgErr : Bool
  /-- PIC_NUM_ERR, bit 12, W1C. -/
  numErr : Bool
  /-- PIC_PWM_CHANGED, bit 13, W1C. -/
  pwmChanged : Bool
  /-- PIC_AW_FROZEN, bit 14. -/
  awFrozen : Bool
  /-- ERR_BUS, bit 15, W1C. -/
  errBus : Bool
  deriving DecidableEq, Repr

/-- The registers and the hidden state of the single-wire front end (10_state.md R39 to R44, R61 to R66). -/
structure Swd where
  /-- SWD_EDGES.EDGE_COUNT (R39). -/
  edgeCount : BitVec 7
  /-- SWD_HUMID[15:0] (R40). -/
  humid : BitVec 16
  /-- SWD_TEMP[15:0] (R41). -/
  temp : BitVec 16
  /-- SWD_CSUM[7:0] (R42). -/
  csum : BitVec 8
  /-- SWD_TSTART.TSTART (R43). -/
  tstart : BitVec 16
  /-- SWD_TIMEOUT.TIMEOUT (R44). -/
  timeout : BitVec 16
  /-- S.LINE_PREV (R61). -/
  linePrev : Bool
  /-- S.PCNT (R62). -/
  pcnt : BitVec 17
  /-- S.TSTART_L (R63). -/
  tstartL : BitVec 16
  /-- S.TIMEOUT_L (R63). -/
  timeoutL : BitVec 16
  /-- S.T_PREV (R64). -/
  tPrev : Word
  /-- S.D_PREV (R65). -/
  dPrev : Word
  /-- S.ACC_H (R66). -/
  accH : BitVec 16
  /-- S.ACC_T (R66). -/
  accT : BitVec 16
  /-- S.ACC_C (R66). -/
  accC : BitVec 8
  deriving DecidableEq, Repr

/-- The registers of the brightness controller (10_state.md R48 to R58); binary32 registers hold raw images (R47). -/
structure Pic where
  /-- PIC_S (R48). -/
  dayStart : Word
  /-- PIC_D (R49). -/
  duration : Word
  /-- PIC_A (R50). -/
  amplitude : Word
  /-- PIC_HOUR (R51). -/
  hour : Word
  /-- PIC_LUXIN[17:0]: COUNT [17:16], BYTE0 [15:8], BYTE1 [7:0] (R52). -/
  luxIn : BitVec 18
  /-- PIC_CONSIGNE (R53). -/
  consigne : Word
  /-- PIC_LUX (R54). -/
  lux : Word
  /-- PIC_LUXRAW[15:0] (R55). -/
  luxRaw : BitVec 16
  /-- PIC_INTEG (R56). -/
  integ : Word
  /-- PIC_OUTPUT (R57). -/
  output : Word
  /-- PIC_PWM[7:0] (R58). -/
  pwm : BitVec 8
  deriving DecidableEq, Repr

/-- The input record of one cycle (00_scope.md R5, 10_state.md R68): `req` is the transaction word of the request
ports, none where `req_valid` = 0 (30_encoding.md R100). -/
structure Input where
  rst : Bool
  dqIn : Bool
  req : Option TW
  deriving DecidableEq, Repr

/-- The whole state. `cfg`, `doneSetB`, `pending` and `cycle` are the model's own fields (INVENTORY.md, logs 2, 4, 5,
10); `rdata`, `busErr` and `pwmWe` are the output ports of the last cycle (10_state.md R68). -/
structure State where
  /-- The build parameters of this block; no step changes them (00_scope.md R6, R7). -/
  cfg : Config.Params
  /-- STATUS (R34). -/
  status : Status
  /-- IRQ_EN.DONE_IE (R38). -/
  doneIe : Bool
  /-- The single-wire front end. -/
  swd : Swd
  /-- The brightness controller. -/
  pic : Pic
  /-- TS (R45). -/
  ts : Word
  /-- S.PRESC, an integer in [0, CLK_PER_US - 1] (R60). -/
  presc : Nat
  /-- The output port `rdata` of the last cycle. -/
  rdata : Word
  /-- The output port `bus_err` of the last cycle. -/
  busErr : Bool
  /-- The output port `pwm_we` of the last cycle. -/
  pwmWe : Bool
  /-- Whether phase (b) of the current cycle set SWD_DONE: set_in_phase_b(5) of 40_cycle_and_bus.md R140. -/
  doneSetB : Bool
  /-- The input records the environment has fixed for the coming cycles, the next one first. -/
  pending : List Input
  /-- How many cycles the model has run: the argument of the free inputs. -/
  cycle : Nat
  deriving DecidableEq, Repr

/-- The errors of 60_exceptions.md R261. -/
inductive BlockError where
  | busError
  | illegalCommand
  | startWhileBusy
  | luxShortfall
  | configError
  | numericError
  | acquisitionTimeout
  | checksumMismatch
  deriving DecidableEq, Repr

/-- No step of the block faults: "The block never halts" (60_exceptions.md R263), and "Every outcome is defined by
the rules of this spec" (R282). So there is no reason to list (log 15). -/
inductive Fault
  deriving DecidableEq, Repr

/-- The reasons a step refuses. -/
inductive Refusal where
  /-- Raised by exec's arm of an instruction that has no meaning yet; safe. No arm of this model raises it. -/
  | notModelled (mnemonic : String)
  deriving DecidableEq, Repr

/-- What exec and step answer. -/
abbrev Result := Host.Outcome State Fault Refusal

/-- STATUS = 0x00000000 (70_reset_and_hazards.md R291). -/
def Status.reset : Status where
  result := .none
  fsm := .idle
  dataValid := false
  done := false
  edge0Level := false
  luxValid := false
  errIllegalCmd := false
  errStartBusy := false
  luxShort := false
  cfgErr := false
  numErr := false
  pwmChanged := false
  awFrozen := false
  errBus := false

/-- The front end after reset (70_reset_and_hazards.md R291). -/
def Swd.reset : Swd where
  edgeCount := 0
  humid := 0
  temp := 0
  csum := 0
  tstart := 1000
  timeout := 10000
  linePrev := true
  pcnt := 0
  tstartL := 1000
  timeoutL := 10000
  tPrev := 0
  dPrev := 0
  accH := 0
  accT := 0
  accC := 0

/-- The controller after reset (70_reset_and_hazards.md R291): S = 6.0, D = 14.0, A = 1000.0, all else 0. -/
def Pic.reset : Pic where
  dayStart := 0x40C00000#32
  duration := 0x41600000#32
  amplitude := 0x447A0000#32
  hour := 0
  luxIn := 0
  consigne := 0
  lux := 0
  luxRaw := 0
  integ := 0
  output := 0
  pwm := 0

/-- The reset state of a block built with the parameters `cfg` (70_reset_and_hazards.md R290, R291). -/
def State.resetWith (cfg : Config.Params) : State where
  cfg := cfg
  status := .reset
  doneIe := false
  swd := .reset
  pic := .reset
  ts := 0
  presc := 0
  rdata := 0
  busErr := false
  pwmWe := false
  doneSetB := false
  pending := []
  cycle := 0

/-- The block right after reset (70_reset_and_hazards.md R291), before any input is fixed (log 2). -/
def State.reset : State := .resetWith Config.build

end Sys2Proof.Machine
end

