-- ==== Sys2Proof/Machine/Operands.lean ====
section
/-! DEFINITION. Operand assembly: the fields a register write takes from DATA (30_encoding.md R106) and the image a
read assembles (40_cycle_and_bus.md R139), for every register but STATUS, whose image is in Flags.lean. -/

namespace Sys2Proof.Machine

/-- DATA[0], the field DONE_IE (30_encoding.md R106). -/
def bit0Of (data : Word) : Bool := data.getLsbD 0

/-- DATA[15:0], the fields TSTART and TIMEOUT (30_encoding.md R106). -/
def low16Of (data : Word) : BitVec 16 := data.extractLsb' 0 16

/-- DATA[17:0], the fields of PIC_LUXIN (30_encoding.md R106). -/
def low18Of (data : Word) : BitVec 18 := data.extractLsb' 0 18

/-- PIC_LUXIN.COUNT, bits [17:16] (10_state.md R52). -/
def luxCount (luxIn : BitVec 18) : BitVec 2 := luxIn.extractLsb' 16 2

/-- PIC_LUXIN.BYTE0, bits [15:8] (10_state.md R52). -/
def luxByte0 (luxIn : BitVec 18) : Byte := luxIn.extractLsb' 8 8

/-- PIC_LUXIN.BYTE1, bits [7:0] (10_state.md R52). -/
def luxByte1 (luxIn : BitVec 18) : Byte := luxIn.extractLsb' 0 8

/-- The raw count `BYTE0*256 + BYTE1`: the first byte is the high byte (20_memory.md R88, 43_controller.md R226). -/
def luxRawOf (luxIn : BitVec 18) : BitVec 16 := luxByte0 luxIn ++ luxByte1 luxIn

/-- A field in the low bits of a register, with zeros in the reserved bits above (20_memory.md R85, 30_encoding.md R106). -/
def zext32 {n : Nat} (v : BitVec n) : Word := v.setWidth 32

/-- A one-bit field in bit 0 of a register. -/
def bitImage (b : Bool) : Word := zext32 (BitVec.ofBool b)

end Sys2Proof.Machine
end

