-- ==== Sys2Proof/Machine/Flags.lean ====
section
/-! DEFINITION. STATUS as a word, its write-one-to-clear fields (10_state.md R34, 40_cycle_and_bus.md R137, R140), and
the frame checksum (41_edge_capture_decoder.md R168). The freeze predicate of 43_controller.md R232 is in Controller.lean. -/

namespace Sys2Proof.Machine

/-- The encoding of SWD_RESULT (10_state.md R35). -/
def SwdResult.code : SwdResult → BitVec 2
  | .none => 0
  | .valid => 1
  | .timeout => 2
  | .checksumMismatch => 3

/-- The encoding of SWD_STATE (10_state.md R36). -/
def SwdState.code : SwdState → BitVec 2
  | .idle => 0
  | .requesting => 1
  | .listening => 2
  | .decoding => 3

/-- STATUS as a word: each field at its bits, the reserved bits [31:16] 0 (10_state.md R34). -/
def Status.image (st : Status) : Word :=
  0#16 ++ BitVec.ofBool st.errBus ++ BitVec.ofBool st.awFrozen ++ BitVec.ofBool st.pwmChanged
    ++ BitVec.ofBool st.numErr ++ BitVec.ofBool st.cfgErr ++ BitVec.ofBool st.luxShort
    ++ BitVec.ofBool st.errStartBusy ++ BitVec.ofBool st.errIllegalCmd ++ BitVec.ofBool st.luxValid
    ++ BitVec.ofBool st.edge0Level ++ BitVec.ofBool st.done ++ BitVec.ofBool st.dataValid
    ++ st.fsm.code ++ st.result.code

/-- A W1C field after a write: cleared where the written bit is 1, unless phase (b) of this cycle set it
(40_cycle_and_bus.md R137, R140). -/
def w1c (old written setInB : Bool) : Bool := old && (!written || setInB)

/-- A host write of STATUS: it clears each W1C field k with DATA[k] = 1 and leaves every RO field
(10_state.md R34, 40_cycle_and_bus.md R140). Phase (b) can set only SWD_DONE (R137). -/
def Status.ack (st : Status) (data : Word) (doneSetB : Bool) : Status :=
  { st with
    done := w1c st.done (data.getLsbD 5) doneSetB
    errIllegalCmd := w1c st.errIllegalCmd (data.getLsbD 8) false
    errStartBusy := w1c st.errStartBusy (data.getLsbD 9) false
    luxShort := w1c st.luxShort (data.getLsbD 10) false
    cfgErr := w1c st.cfgErr (data.getLsbD 11) false
    numErr := w1c st.numErr (data.getLsbD 12) false
    pwmChanged := w1c st.pwmChanged (data.getLsbD 13) false
    errBus := w1c st.errBus (data.getLsbD 15) false }

/-- csum(H, T): the four data bytes summed modulo 256 (41_edge_capture_decoder.md R168, 90_conflicts.md C1). -/
def frameSum (h t : BitVec 16) : BitVec 8 :=
  h.extractLsb' 8 8 + h.extractLsb' 0 8 + t.extractLsb' 8 8 + t.extractLsb' 0 8

/-- frame_ok(H, T, C) (41_edge_capture_decoder.md R168). -/
def frameOk (h t : BitVec 16) (c : BitVec 8) : Bool := frameSum h t == c

end Sys2Proof.Machine
end

