-- ==== Sys2Proof/Machine/Ops.lean ====
section
/-! DEFINITION. The shared operations over the registers: the image of a register, the answer of a transaction, the
record of an error (the block's one form of taking an exception, 60_exceptions.md R260, R261, R267), its acknowledgement
(R268), and the output ports (10_state.md R68). -/

namespace Sys2Proof.Machine

/-- image(ADDR) of 40_cycle_and_bus.md R139: the register, its fields at their positions, reserved bits 0. -/
def regImage (s : State) : Reg → Word
  | .cmd => 0#32
  | .status => s.status.image
  | .irqEn => bitImage s.doneIe
  | .swdEdges => zext32 s.swd.edgeCount
  | .swdHumid => zext32 s.swd.humid
  | .swdTemp => zext32 s.swd.temp
  | .swdCsum => zext32 s.swd.csum
  | .swdTstart => zext32 s.swd.tstart
  | .swdTimeout => zext32 s.swd.timeout
  | .ts => s.ts
  | .picS => s.pic.dayStart
  | .picD => s.pic.duration
  | .picA => s.pic.amplitude
  | .picHour => s.pic.hour
  | .picLuxin => zext32 s.pic.luxIn
  | .picConsigne => s.pic.consigne
  | .picLux => s.pic.lux
  | .picLuxraw => zext32 s.pic.luxRaw
  | .picInteg => s.pic.integ
  | .picOutput => s.pic.output
  | .picPwm => zext32 s.pic.pwm

/-- The response to a transaction that is no bus error: `bus_err` = 0 and the read data, which is 0 for a write or a
command (20_memory.md R84, 40_cycle_and_bus.md R139 to R141). -/
def State.answer (s : State) (v : Word) : State := { s with rdata := v, busErr := false }

/-- `raise <Error>`: the record of 60_exceptions.md R261 and no other change (00_scope.md R9, R262). A sticky flag that
is already 1 stays 1 (10_state.md R37). A BusError also answers with `bus_err` = 1 and `rdata` = 0 (20_memory.md R84).
An acquisition outcome replaces SWD_RESULT and sets SWD_DONE. -/
def State.raise (e : BlockError) (s : State) : State :=
  match e with
  | .busError => { s with status.errBus := true, busErr := true, rdata := 0#32 }
  | .illegalCommand => { s with status.errIllegalCmd := true }
  | .startWhileBusy => { s with status.errStartBusy := true }
  | .luxShortfall => { s with status.luxShort := true }
  | .configError => { s with status.cfgErr := true }
  | .numericError => { s with status.numErr := true }
  | .acquisitionTimeout => { s with status.result := .timeout, status.done := true }
  | .checksumMismatch => { s with status.result := .checksumMismatch, status.done := true }

/-- The acknowledgement of errors and completions: a host write of STATUS (60_exceptions.md R268, 40_cycle_and_bus.md R140). -/
def State.acknowledge (s : State) (data : Word) : State :=
  { s with status := s.status.ack data s.doneSetB }

/-- `dq_oe` = 1 iff SWD_STATE = REQUESTING (10_state.md R68). -/
def State.dqOe (s : State) : Bool := s.status.fsm == .requesting

/-- `pwm_duty[7:0]` = PIC_PWM[7:0] (10_state.md R68). -/
def State.pwmDuty (s : State) : Byte := s.pic.pwm

/-- `irq` = STATUS.SWD_DONE AND IRQ_EN.DONE_IE (10_state.md R68, 60_exceptions.md R270). -/
def State.irq (s : State) : Bool := s.status.done && s.doneIe

end Sys2Proof.Machine
end

