-- ==== Sys2Proof/Machine/Capture.lean ====
section
/-! DEFINITION. The edge phase of the cycle step and the operation EDGE (41_edge_capture_decoder.md R160 to R167). -/

namespace Sys2Proof.Machine

/-- The bit an odd edge decodes: 1 iff d[n] exceeds d[n-1], unsigned and strict (41_edge_capture_decoder.md R165). -/
def edgeBit (d dPrev : Word) : Bool := decide (dPrev.toNat < d.toNat)

/-- A bit appended at the least significant end; the most significant bit falls off (41_edge_capture_decoder.md R166). -/
def shiftIn {n : Nat} (acc : BitVec n) (b : Bool) : BitVec n := (acc <<< 1) ||| (BitVec.ofBool b).setWidth n

/-- Whether edge `n` decodes a humidity bit: odd n with 4 < n < 36 (00_scope.md R6, 41_edge_capture_decoder.md R166). -/
def inHumid (n : Nat) : Bool := n % 2 == 1 && decide (4 < n) && decide (n < 36)

/-- Whether edge `n` decodes a temperature bit: odd n with 36 < n < 68. -/
def inTemp (n : Nat) : Bool := n % 2 == 1 && decide (36 < n) && decide (n < 68)

/-- Whether edge `n` decodes a checksum bit: odd n with 68 < n < 84. -/
def inCsum (n : Nat) : Bool := n % 2 == 1 && decide (68 < n) && decide (n < 84)

/-- The frame accumulators after the bit of edge `n`, if it decodes one (41_edge_capture_decoder.md R165, R166). -/
def Swd.shiftBit (w : Swd) (n : Nat) (b : Bool) : Swd :=
  { w with
    accH := if inHumid n then shiftIn w.accH b else w.accH
    accT := if inTemp n then shiftIn w.accT b else w.accT
    accC := if inCsum n then shiftIn w.accC b else w.accC }

/-- EDGE on the front end: the index n is EDGE_COUNT before the edge, `t` is TS after the timer phase
(41_edge_capture_decoder.md R162 to R166). Edge 0 has no interval and decodes no bit. -/
def Swd.captureEdge (w : Swd) (t : Word) : Swd :=
  if w.edgeCount = 0 then { w with tPrev := t, edgeCount := w.edgeCount + 1 }
  else
    let d := t - w.tPrev
    { w.shiftBit w.edgeCount.toNat (edgeBit d w.dPrev) with
      dPrev := d
      tPrev := t
      edgeCount := w.edgeCount + 1 }

/-- Whether this cycle's sample is a captured edge: the level changed, `st0` = LISTENING and EDGE_COUNT < 84
(41_edge_capture_decoder.md R160, R161). -/
def edgeCaptured (dq : Bool) (st0 : SwdState) (w : Swd) : Bool :=
  dq != w.linePrev && st0 == .listening && decide (w.edgeCount.toNat < 84)

/-- The edge phase: S.LINE_PREV takes the sample in every cycle, and a captured edge is one EDGE operation; edge 0
records the level after it (41_edge_capture_decoder.md R160 to R163). -/
def edgePhase (dq : Bool) (st0 : SwdState) (s : State) : State :=
  if edgeCaptured dq st0 s.swd then
    { s with
      swd := { s.swd.captureEdge s.ts with linePrev := dq }
      status.edge0Level := if s.swd.edgeCount = 0 then dq else s.status.edge0Level }
  else { s with swd.linePrev := dq }

end Sys2Proof.Machine
end

