-- ==== Sys2Proof/Machine/Acquire.lean ====
section
/-! DEFINITION. The acquisition state machine (42_acquisition.md R190 to R199). -/

namespace Sys2Proof.Machine

/-- Idle to Requesting: what an accepted SWD_START writes (42_acquisition.md R190). -/
def startAcquisition (s : State) : State :=
  { s with
    status.fsm := .requesting
    swd.pcnt := 0
    swd.tstartL := s.swd.tstart
    swd.timeoutL := s.swd.timeout }

/-- S.PCNT after a µs tick: it saturates at 2^17 - 1 (10_state.md R62, 42_acquisition.md R192, R195). -/
def pcntUp (p : BitVec 17) : BitVec 17 := if p = BitVec.allOnes 17 then p else p + 1

/-- S.PCNT after this cycle's tick, if there is one. -/
def pcntNext (tick : Bool) (p : BitVec 17) : BitVec 17 := if tick then pcntUp p else p

/-- arm(): Requesting to Listening (42_acquisition.md R193). -/
def arm (s : State) : State :=
  { s with
    status.fsm := .listening
    swd.edgeCount := 0
    swd.accH := 0
    swd.accT := 0
    swd.accC := 0
    swd.tPrev := 0
    swd.dPrev := 0
    swd.pcnt := 0 }

/-- The REQUESTING step (42_acquisition.md R192). -/
def requestingStep (tick : Bool) (s : State) : State :=
  let s1 := { s with swd.pcnt := pcntNext tick s.swd.pcnt }
  if tick && decide (s1.swd.tstartL.toNat < s1.swd.pcnt.toNat) then arm s1 else s1

/-- Whether LISTENING ends: a complete frame, or the window elapsed (42_acquisition.md R196, R197). -/
def listeningEnds (w : Swd) : Bool :=
  decide (w.edgeCount.toNat = 84) || decide (w.timeoutL.toNat ≤ w.pcnt.toNat)

/-- The LISTENING step after the edge phase (42_acquisition.md R195, R196). -/
def listeningStep (tick : Bool) (s : State) : State :=
  let s1 := { s with swd.pcnt := pcntNext tick s.swd.pcnt }
  if listeningEnds s1.swd then { s1 with status.fsm := .decoding } else s1

/-- The outcome VALID: the frame words are written, all in one cycle (42_acquisition.md R199). -/
def commitValid (s : State) : State :=
  { s with
    status.result := .valid
    status.dataValid := true
    status.done := true
    swd.humid := s.swd.accH
    swd.temp := s.swd.accT
    swd.csum := s.swd.accC }

/-- The outcome of an acquisition: VALID, or the record of CHECKSUM_MISMATCH or TIMEOUT (42_acquisition.md R199,
60_exceptions.md R261). -/
def commitOutcome (s : State) : State :=
  if s.swd.edgeCount.toNat = 84 then
    if frameOk s.swd.accH s.swd.accT s.swd.accC then commitValid s else s.raise .checksumMismatch
  else s.raise .acquisitionTimeout

/-- commit(): the outcome, then SWD_DONE = 1 and IDLE (42_acquisition.md R198, R199); phase (b) has set SWD_DONE in
this cycle (40_cycle_and_bus.md R137). -/
def commit (s : State) : State :=
  { commitOutcome s with status.done := true, status.fsm := .idle, doneSetB := true }

/-- The FSM phase, by the state at the start of phase (b) (42_acquisition.md R191 to R199). -/
def fsmPhase (tick : Bool) (st0 : SwdState) (s : State) : State :=
  match st0 with
  | .idle => s
  | .requesting => requestingStep tick s
  | .listening => listeningStep tick s
  | .decoding => commit s

end Sys2Proof.Machine
end

