-- ==== Sys2Proof/Machine/Cycle.lean ====
section
/-! DEFINITION. The cycle step around the host transaction: the inputs of a cycle, phases (a) and (b), and reset
(40_cycle_and_bus.md R130 to R138, 70_reset_and_hazards.md R290). -/

namespace Sys2Proof.Machine

/-- The input record of the next cycle: the first pending one, else free inputs, one per agent (00_scope.md R5,
40_cycle_and_bus.md R135; log 2). -/
def State.nextInput (s : State) : Input :=
  match s.pending with
  | i :: _ => i
  | [] => { rst := Config.freeRst s.cycle, dqIn := Config.freeLine s.cycle, req := Config.freeRequest s.cycle }

/-- The start of a cycle: the input record is taken, `rdata`, `bus_err` and `pwm_we` are 0 until a phase of this cycle
drives them (10_state.md R68), and phase (b) has set nothing yet. -/
def State.beginCycle (s : State) : State :=
  { s with
    rdata := 0#32
    busErr := false
    pwmWe := false
    doneSetB := false
    pending := s.pending.tail
    cycle := s.cycle + 1 }

/-- A cycle with `rst` = 1: every register and hidden state at its reset value; the transaction and `dq_in` of the cycle
are discarded (70_reset_and_hazards.md R290). The build parameters and the environment's records are no state of the block. -/
def State.resetCycle (s : State) : State :=
  { State.resetWith s.cfg with pending := s.pending.tail, cycle := s.cycle + 1 }

/-- us_tick (40_cycle_and_bus.md R131). -/
def State.usTick (s : State) : Bool := s.presc == s.cfg.clkPerUs - 1

/-- Phase (a): the prescaler and TS (40_cycle_and_bus.md R131, R132). -/
def timerPhase (s : State) : State :=
  { s with
    presc := if s.usTick then 0 else s.presc + 1
    ts := if s.usTick then s.ts + 1#32 else s.ts }

/-- Phases (a) and (b) of a cycle with `rst` = 0 (40_cycle_and_bus.md R130): `st0` is SWD_STATE at the start of phase
(b), and both phases of (b) read the us_tick of this cycle's phase (a) (R131). -/
def State.internalPhases (s : State) (dq : Bool) : State :=
  let st0 := s.status.fsm
  fsmPhase s.usTick st0 (edgePhase dq st0 (timerPhase s.beginCycle))

end Sys2Proof.Machine
end

