-- ==== Sys2Proof/Machine/BusErrors.lean ====
section
/-! DEFINITION. BUS_ERROR: the six rows of misaligned and unmapped offsets (20_memory.md R83, R84). -/

namespace Sys2Proof.Machine

/-- A bus error, read or write: `bus_err` = 1, `rdata` = 0, ERR_BUS set, and nothing else (20_memory.md R84). The
offending offset and data are stored nowhere (60_exceptions.md R261). -/
def busErrorResponse (_we : Bool) (_addr : Byte) (_data : Word) (s : State) : Result := .next (s.raise .busError)

/-- BUS_ERROR, misaligned, ADDR[0] = 1 (20_memory.md R84). -/
def execBusErrorOdd (we : Bool) (addr : Byte) (data : Word) (s : State) : Result := busErrorResponse we addr data s

/-- BUS_ERROR, misaligned, ADDR[1] = 1 (20_memory.md R84). -/
def execBusErrorHalf (we : Bool) (addr : Byte) (data : Word) (s : State) : Result := busErrorResponse we addr data s

/-- BUS_ERROR, unmapped, 0x54 to 0x57 (20_memory.md R84). -/
def execBusErrorUnmapped54 (we : Bool) (addr : Byte) (data : Word) (s : State) : Result := busErrorResponse we addr data s

/-- BUS_ERROR, unmapped, 0x58 to 0x5F (20_memory.md R84). -/
def execBusErrorUnmapped58 (we : Bool) (addr : Byte) (data : Word) (s : State) : Result := busErrorResponse we addr data s

/-- BUS_ERROR, unmapped, 0x60 to 0x7F (20_memory.md R84). -/
def execBusErrorUnmapped60 (we : Bool) (addr : Byte) (data : Word) (s : State) : Result := busErrorResponse we addr data s

/-- BUS_ERROR, unmapped, 0x80 to 0xFF (20_memory.md R84). -/
def execBusErrorUnmapped80 (we : Bool) (addr : Byte) (data : Word) (s : State) : Result := busErrorResponse we addr data s

end Sys2Proof.Machine
end

