-- ==== Sys2Proof/Machine/Float.lean ====
section
/-! DEFINITION. Binary32 arithmetic (00_scope.md R11 to R13): each operation is computed exactly on integers, in
units of 2^-149, and rounded once. -/

namespace Sys2Proof.Machine

/-- `num / den` rounded to the nearest integer, a tie to the even one (roundTiesToEven, 00_scope.md R12). -/
def roundTiesEven (num den : Nat) : Nat :=
  let q := num / den
  let r := num % den
  if den < 2 * r ∨ (2 * r = den ∧ q % 2 = 1) then q + 1 else q

/-- How many low bits of `num / den` the 24-bit significand drops. -/
def dropBits (num den : Nat) : Nat := Nat.log2 (num / den) - 23

/-- The low 31 bits (exponent and fraction) of the binary32 value nearest to `num / den` units of 2^-149; from
2^128 - 2^103 on they are those of infinity (00_scope.md R12). A significand that rounds up to 2^24 carries into the
exponent field, which is the next binade's encoding. -/
def roundedBits (num den : Nat) : Nat :=
  let s := dropBits num den
  min (s * 2 ^ 23 + roundTiesEven num (den * 2 ^ s)) 0x7F800000

/-- The magnitude, in units of 2^-149, of the low 31 bits of a finite binary32 encoding (00_scope.md R11). -/
def magOfBits (b : Nat) : Nat :=
  if b < 2 ^ 23 then b else (2 ^ 23 + b % 2 ^ 23) * 2 ^ (b / 2 ^ 23 - 1)

/-- The value of the low 31 bits of an encoding with the given sign. -/
def valueOfBits (neg : Bool) (b : Nat) : F32 :=
  if b < 0x7F800000 then .fin neg (magOfBits b)
  else if b = 0x7F800000 then .inf neg else .nan

/-- The value of a binary32 encoding (00_scope.md R11). -/
def decodeF32 (w : Word) : F32 := valueOfBits (w.getLsbD 31) (w.toNat % 2 ^ 31)

/-- The encoding of a sign and the low 31 bits. -/
def packF32 (neg : Bool) (b : Nat) : Word := BitVec.ofNat 32 (cond neg (2 ^ 31) 0 + b)

/-- A NaN encoding (00_scope.md R11): exponent field all ones and a fraction that is not 0. The free `choice` stands where it
is one, so that every sign and payload is possible, and 0x7FC00000 where it is not (log 7). -/
def nanWord (choice : Word) : Word := if decodeF32 choice = .nan then choice else 0x7FC00000#32

/-- The encoding of a value (00_scope.md R11), the sign and payload of a NaN given by a free choice. -/
def imageOf (choice : Word) : F32 → Word
  | .nan => nanWord choice
  | .inf neg => packF32 neg 0x7F800000
  | .fin neg mag => packF32 neg (roundedBits mag 1)

/-- The encoding of a value (00_scope.md R11); a NaN has the sign and payload `Config.nanImage` (log 7). -/
def encodeF32 (x : F32) : Word := imageOf Config.nanImage x

/-- rnd32 of ±num/den units of 2^-149 (00_scope.md R12). -/
def rnd32 (neg : Bool) (num den : Nat) : F32 := valueOfBits neg (roundedBits num den)

/-- rnd32 of an integer number of units: the exact sum of two finite values. An exact zero has sign `zeroNeg`. -/
def rndInt (zeroNeg : Bool) (x : Int) : F32 :=
  if x = 0 then .fin zeroNeg 0 else rnd32 (x < 0) x.natAbs 1

/-- The signed number of units of a finite value. -/
def signedMag (neg : Bool) (mag : Nat) : Int := cond neg (-(mag : Int)) mag

/-- finite(a): neither infinite nor NaN (00_scope.md R12). -/
def isFinite : F32 → Bool
  | .fin _ _ => true
  | _ => false

/-- -a: the sign bit flipped. -/
def fneg : F32 → F32
  | .nan => .nan
  | .inf n => .inf (!n)
  | .fin n m => .fin (!n) m

/-- fadd(a, b) (00_scope.md R12); a zero sum is -0.0 only where both operands are negative zeros (IEEE 754,
roundTiesToEven). -/
def fadd : F32 → F32 → F32
  | .nan, _ => .nan
  | _, .nan => .nan
  | .inf n, .inf m => if n = m then .inf n else .nan
  | .inf n, .fin _ _ => .inf n
  | .fin _ _, .inf m => .inf m
  | .fin n a, .fin m b => rndInt (n && m) (signedMag n a + signedMag m b)

/-- fsub(a, b) (00_scope.md R12). -/
def fsub (a b : F32) : F32 := fadd a (fneg b)

/-- fmul(a, b) (00_scope.md R12): units of 2^-149 times units of 2^-149. -/
def fmul : F32 → F32 → F32
  | .nan, _ => .nan
  | _, .nan => .nan
  | .inf n, .inf m => .inf (n != m)
  | .inf n, .fin m b => if b = 0 then .nan else .inf (n != m)
  | .fin n a, .inf m => if a = 0 then .nan else .inf (n != m)
  | .fin n a, .fin m b => rnd32 (n != m) (a * b) (2 ^ 149)

/-- fdiv(a, b) (00_scope.md R12). -/
def fdiv : F32 → F32 → F32
  | .nan, _ => .nan
  | _, .nan => .nan
  | .inf _, .inf _ => .nan
  | .inf n, .fin m _ => .inf (n != m)
  | .fin n _, .inf m => .fin (n != m) 0
  | .fin n a, .fin m b =>
    if b = 0 then if a = 0 then .nan else .inf (n != m)
    else rnd32 (n != m) (a * 2 ^ 149) b

/-- a <f b (00_scope.md R12): false where either is a NaN; the two zeros are equal. -/
def flt : F32 → F32 → Bool
  | .nan, _ => false
  | _, .nan => false
  | .inf n, .inf m => n && !m
  | .inf n, .fin _ _ => n
  | .fin _ _, .inf m => !m
  | .fin n a, .fin m b => decide (signedMag n a < signedMag m b)

/-- a <=f b (00_scope.md R12): false where either is a NaN. -/
def fle : F32 → F32 → Bool
  | .nan, _ => false
  | _, .nan => false
  | .inf n, .inf m => n || !m
  | .inf n, .fin _ _ => n
  | .fin _ _, .inf m => !m
  | .fin n a, .fin m b => decide (signedMag n a ≤ signedMag m b)

/-- a >f b (00_scope.md R12). -/
def fgt (a b : F32) : Bool := flt b a

/-- a >=f b (00_scope.md R12). -/
def fge (a b : F32) : Bool := fle b a

/-- f32(n): the exact binary32 value of an integer from 0 to 65535 (43_controller.md R227). -/
def f32OfNat (n : Nat) : F32 := .fin false (n * 2 ^ 149)

/-- +0.0. -/
def fzero : F32 := .fin false 0

/-- 1.0. -/
def fone : F32 := f32OfNat 1

/-- 2.0. -/
def ftwo : F32 := f32OfNat 2

/-- roundHalfAway(x) of a finite value: the nearest integer, a half to the larger magnitude, computed exactly
(00_scope.md R13). -/
def roundHalfAway (neg : Bool) (mag : Nat) : Int := signedMag neg ((2 * mag + 2 ^ 149) / 2 ^ 150)

/-- u8(x): `roundHalfAway(x)` for x in [0, 255] (00_scope.md R13); outside it is free (log 8). -/
def u8 (x : F32) : Byte :=
  match x with
  | .fin neg mag =>
    if fle fzero x && fle x (f32OfNat 255) then BitVec.ofInt 8 (roundHalfAway neg mag)
    else Config.freeU8 (encodeF32 x)
  | _ => Config.freeU8 (encodeF32 x)

/-- COS(x) for a finite x: any function with the conditions (i) to (v) of 00_scope.md R7. The three fixed
arguments have their fixed values; elsewhere the free choice stands where it lies in [-1, +1], and 1.0 where it does
not, so that every function the conditions admit is one of these (log 6). An infinite or NaN argument gives a NaN. -/
def cosF32 (x : F32) : F32 :=
  match x with
  | .fin _ _ =>
    let w := encodeF32 x
    if w = 0#32 then fone
    else if w = 0x40490FDB#32 then fneg fone
    else if w = 0x40C90FDB#32 then fone
    else
      let v := decodeF32 (Config.cosChoice w)
      if fle (fneg fone) v && fle v fone then v else fone
  | _ => .nan

end Sys2Proof.Machine
end

