-- ==== Sys2Proof/Machine/Controller.lean ====
section
/-! DEFINITION. The PI brightness controller (43_controller.md R220 to R238): the setpoint, the luminosity read and the
regulation step, as functions of the parameters and the controller's registers. -/

namespace Sys2Proof.Machine

/-- The configuration check of PIC_SETPOINT (43_controller.md R222). -/
def setpointConfigOk (day dur amp hour : F32) : Bool :=
  isFinite day && isFinite dur && isFinite amp && isFinite hour && fgt dur fzero

/-- The window test `S <=f h and h <=f e` with e = fadd(S, D) (43_controller.md R223). -/
def inWindow (day dur hour : F32) : Bool := fle day hour && fle hour (fadd day dur)

/-- The argument of the cosine, 2π·(h - S)/D in radians, evaluated left to right (43_controller.md R223). -/
def setpointAngle (twoPi day dur hour : F32) : F32 := fdiv (fmul twoPi (fsub hour day)) dur

/-- `A * (1 - c) / 2`, evaluated left to right (00_scope.md R12, 43_controller.md R223). -/
def raisedCosine (amp c : F32) : F32 := fdiv (fmul amp (fsub fone c)) ftwo

/-- Whether every guarded intermediate of the setpoint is finite: t, m, x, q and cnew (43_controller.md R223). -/
def setpointFinite (twoPi day dur amp hour c : F32) : Bool :=
  isFinite (fsub hour day) && isFinite (fmul twoPi (fsub hour day)) && isFinite (setpointAngle twoPi day dur hour)
    && isFinite (fmul amp (fsub fone c)) && isFinite (raisedCosine amp c)

/-- PIC_SETPOINT on values: the new consigne, or the error that abandons it (43_controller.md R222, R223). -/
def setpointOf (twoPi day dur amp hour : F32) : Except BlockError F32 :=
  if !setpointConfigOk day dur amp hour then .error .configError
  else if !inWindow day dur hour then .ok fzero
  else
    let c := cosF32 (setpointAngle twoPi day dur hour)
    if setpointFinite twoPi day dur amp hour c then .ok (raisedCosine amp c) else .error .numericError

/-- PIC_SETPOINT on the registers (43_controller.md R221). -/
def setpoint (cfg : Config.Params) (p : Pic) : Except BlockError F32 :=
  setpointOf (decodeF32 cfg.twoPi) (decodeF32 p.dayStart) (decodeF32 p.duration) (decodeF32 p.amplitude)
    (decodeF32 p.hour)

/-- lux(raw) (43_controller.md R227). -/
def luxScale (cfg : Config.Params) (raw : BitVec 16) : F32 :=
  fdiv (fdiv (f32OfNat raw.toNat) (decodeF32 cfg.luxDiv1)) (decodeF32 cfg.luxDiv2)

/-- The register image of lux(raw) (43_controller.md R226, 00_scope.md R11). It is a NaN encoding where lux(raw) is a NaN,
which takes divisors other than the defaults: 0/0, infinity/infinity, or a NaN divisor (log 7). -/
def luxImage (cfg : Config.Params) (raw : BitVec 16) : Word :=
  imageOf (Config.luxNan cfg.luxDiv1 cfg.luxDiv2 raw) (luxScale cfg raw)

/-- The registers after a PIC_LUX with COUNT ≥ 2 (43_controller.md R226). -/
def Pic.loadLux (p : Pic) (cfg : Config.Params) : Pic :=
  { p with luxRaw := luxRawOf p.luxIn, lux := luxImage cfg (luxRawOf p.luxIn) }

/-- The terms of a regulation step (43_controller.md R230). -/
structure RegTerms where
  p : F32
  er : F32
  di : F32
  u : F32
  deriving DecidableEq, Repr

/-- p, er, di and u, each rounded to binary32, in the written order (43_controller.md R230). The proportional term does
not depend on the luminosity (90_conflicts.md C4). -/
def regTerms (cfg : Config.Params) (c l i : F32) : RegTerms :=
  let p := fmul (decodeF32 cfg.kp) c
  let er := fsub c l
  let di := fdiv er (decodeF32 cfg.kiDiv)
  { p := p, er := er, di := di, u := fadd (fadd p i) di }

/-- The numeric guard on the terms (43_controller.md R231). -/
def RegTerms.finite (r : RegTerms) : Bool := isFinite r.p && isFinite r.er && isFinite r.di && isFinite r.u

/-- The anti-windup predicate (43_controller.md R232). -/
def freezes (outMax di u : F32) : Bool := (fgt di fzero && fgt u outMax) || (flt di fzero && flt u fzero)

/-- I', the integrator after the step (43_controller.md R233). -/
def integNext (outMax : F32) (r : RegTerms) (i : F32) : F32 := if freezes outMax r.di r.u then i else fadd i r.di

/-- y, the sum with the derivative term +0.0 (43_controller.md R234). -/
def driveSum (p i' : F32) : F32 := fadd (fadd p i') fzero

/-- The clamp to [+0.0, OUT_MAX] by IEEE comparisons (43_controller.md R234). -/
def clampDrive (outMax y : F32) : F32 := if flt y fzero then fzero else if fgt y outMax then outMax else y

/-- What a completed regulation step writes (43_controller.md R232 to R235). -/
structure RegResult where
  integ : Word
  output : Word
  pwm : Byte
  frozen : Bool
  deriving DecidableEq, Repr

/-- PIC_REGULATE on the registers: the values it writes, or NumericError (43_controller.md R229 to R235). A frozen step
keeps the integrator's image. -/
def regulate (cfg : Config.Params) (p : Pic) : Except BlockError RegResult :=
  let outMax := decodeF32 cfg.outMax
  let i := decodeF32 p.integ
  let r := regTerms cfg (decodeF32 p.consigne) (decodeF32 p.lux) i
  let frozen := freezes outMax r.di r.u
  let i' := integNext outMax r i
  let y := driveSum r.p i'
  let out := clampDrive outMax y
  if r.finite && isFinite i' && isFinite y then
    .ok { integ := if frozen then p.integ else encodeF32 i', output := encodeF32 out, pwm := u8 out, frozen := frozen }
  else .error .numericError

/-- The state after a completed regulation step: the writes of 43_controller.md R232 to R235. PIC_PWM, `pwm_we` and
PIC_PWM_CHANGED move only where the rounded value differs. -/
def State.regulated (s : State) (r : RegResult) : State :=
  { s with
    pic.integ := r.integ
    pic.output := r.output
    pic.pwm := r.pwm
    pwmWe := r.pwm != s.pic.pwm
    status.awFrozen := r.frozen
    status.pwmChanged := s.status.pwmChanged || r.pwm != s.pic.pwm }

end Sys2Proof.Machine
end

