-- ==== Sys2Proof/Machine/Commands.lean ====
section
/-! DEFINITION. The commands of CMD (30_encoding.md R103, R105) and ILLEGAL_CMD (40_cycle_and_bus.md R143). Each is
performed entirely in phase (c) of the cycle of its write, and answers `bus_err` = 0 and `rdata` = 0 (R141). -/

namespace Sys2Proof.Machine

/-- The answer of every write of CMD that is no bus error (40_cycle_and_bus.md R141, R143). -/
def commandDone (s : State) : Result := .next (s.answer 0#32)

/-- NOP: nothing but the answer (40_cycle_and_bus.md R142). -/
def execNop (s : State) : Result := commandDone s

/-- SWD_START: accepted in IDLE, else StartWhileBusy and no other change (42_acquisition.md R190). -/
def execSwdStart (s : State) : Result :=
  commandDone (if s.status.fsm = .idle then startAcquisition s else s.raise .startWhileBusy)

/-- What PIC_SETPOINT leaves: the new consigne, or the error's record alone (43_controller.md R222 to R224). -/
def setpointApplied (s : State) : State :=
  match setpoint s.cfg s.pic with
  | .ok v => { s with pic.consigne := encodeF32 v }
  | .error e => s.raise e

/-- PIC_SETPOINT (43_controller.md R221). -/
def execPicSetpoint (s : State) : Result := commandDone (setpointApplied s)

/-- PIC_LUX: COUNT < 2 is LuxShortfall and keeps the stale value; else the luminosity is loaded (43_controller.md R226). -/
def execPicLux (s : State) : Result :=
  commandDone
    (if (luxCount s.pic.luxIn).toNat < 2 then s.raise .luxShortfall
     else { s with pic := s.pic.loadLux s.cfg, status.luxValid := true })

/-- What PIC_REGULATE leaves: the completed step, or NumericError's record alone, with `pwm_we` = 0
(43_controller.md R229 to R235, 10_state.md R68). -/
def regulateApplied (s : State) : State :=
  match regulate s.cfg s.pic with
  | .ok r => s.regulated r
  | .error e => { s.raise e with pwmWe := false }

/-- PIC_REGULATE (43_controller.md R229). -/
def execPicRegulate (s : State) : Result := commandDone (regulateApplied s)

/-- ILLEGAL_CMD: ERR_ILLEGAL_CMD set, nothing else; the word is stored nowhere (40_cycle_and_bus.md R143,
60_exceptions.md R261). -/
def execIllegalCmd (_data : Word) (s : State) : Result := commandDone (s.raise .illegalCommand)

end Sys2Proof.Machine
end

