-- ==== Sys2Proof/Machine/Reads.lean ====
section
/-! DEFINITION. REG_READ: the 21 register reads (40_cycle_and_bus.md R139). No read has a side effect (20_memory.md R89). -/

namespace Sys2Proof.Machine

/-- REG_READ: the register's image on `rdata`, `bus_err` = 0, and nothing else (40_cycle_and_bus.md R139). -/
def readRegister (r : Reg) (s : State) : Result := .next (s.answer (regImage s r))

/-- RD_CMD: the read of offset 0x00 (R139, 10_state.md R33). -/
def execRdCmd (s : State) : Result := readRegister .cmd s

/-- RD_STATUS: the read of offset 0x04 (R139, 10_state.md R34). -/
def execRdStatus (s : State) : Result := readRegister .status s

/-- RD_IRQ_EN: the read of offset 0x08 (R139, 10_state.md R38). -/
def execRdIrqEn (s : State) : Result := readRegister .irqEn s

/-- RD_SWD_EDGES: the read of offset 0x0C (R139, 10_state.md R39). -/
def execRdSwdEdges (s : State) : Result := readRegister .swdEdges s

/-- RD_SWD_HUMID: the read of offset 0x10 (R139, 10_state.md R40). -/
def execRdSwdHumid (s : State) : Result := readRegister .swdHumid s

/-- RD_SWD_TEMP: the read of offset 0x14 (R139, 10_state.md R41). -/
def execRdSwdTemp (s : State) : Result := readRegister .swdTemp s

/-- RD_SWD_CSUM: the read of offset 0x18 (R139, 10_state.md R42). -/
def execRdSwdCsum (s : State) : Result := readRegister .swdCsum s

/-- RD_SWD_TSTART: the read of offset 0x1C (R139, 10_state.md R43). -/
def execRdSwdTstart (s : State) : Result := readRegister .swdTstart s

/-- RD_SWD_TIMEOUT: the read of offset 0x20 (R139, 10_state.md R44). -/
def execRdSwdTimeout (s : State) : Result := readRegister .swdTimeout s

/-- RD_TS: the read of offset 0x24 (R139, 10_state.md R45). -/
def execRdTs (s : State) : Result := readRegister .ts s

/-- RD_PIC_S: the read of offset 0x28 (R139, 10_state.md R48). -/
def execRdPicS (s : State) : Result := readRegister .picS s

/-- RD_PIC_D: the read of offset 0x2C (R139, 10_state.md R49). -/
def execRdPicD (s : State) : Result := readRegister .picD s

/-- RD_PIC_A: the read of offset 0x30 (R139, 10_state.md R50). -/
def execRdPicA (s : State) : Result := readRegister .picA s

/-- RD_PIC_HOUR: the read of offset 0x34 (R139, 10_state.md R51). -/
def execRdPicHour (s : State) : Result := readRegister .picHour s

/-- RD_PIC_LUXIN: the read of offset 0x38 (R139, 10_state.md R52). -/
def execRdPicLuxin (s : State) : Result := readRegister .picLuxin s

/-- RD_PIC_CONSIGNE: the read of offset 0x3C (R139, 10_state.md R53). -/
def execRdPicConsigne (s : State) : Result := readRegister .picConsigne s

/-- RD_PIC_LUX: the read of offset 0x40 (R139, 10_state.md R54). -/
def execRdPicLux (s : State) : Result := readRegister .picLux s

/-- RD_PIC_LUXRAW: the read of offset 0x44 (R139, 10_state.md R55). -/
def execRdPicLuxraw (s : State) : Result := readRegister .picLuxraw s

/-- RD_PIC_INTEG: the read of offset 0x48 (R139, 10_state.md R56). -/
def execRdPicInteg (s : State) : Result := readRegister .picInteg s

/-- RD_PIC_OUTPUT: the read of offset 0x4C (R139, 10_state.md R57). -/
def execRdPicOutput (s : State) : Result := readRegister .picOutput s

/-- RD_PIC_PWM: the read of offset 0x50 (R139, 10_state.md R58). -/
def execRdPicPwm (s : State) : Result := readRegister .picPwm s

end Sys2Proof.Machine
end

