-- ==== Sys2Proof/Machine/Writes.lean ====
section
/-! DEFINITION. REG_WRITE: the 20 register writes (40_cycle_and_bus.md R140, 30_encoding.md R106). -/

namespace Sys2Proof.Machine

/-- The answer of every write: `bus_err` = 0 and `rdata` = 0 (40_cycle_and_bus.md R140). -/
def writeDone (s : State) : Result := .next (s.answer 0#32)

/-- A write of a read-only register: ignored, `bus_err` = 0, no flag (20_memory.md R85, 40_cycle_and_bus.md R140). -/
def writeIgnored (_data : Word) (s : State) : Result := writeDone s

/-- WR_STATUS: the write of offset 0x04 (R140, 10_state.md R34). -/
def execWrStatus (data : Word) (s : State) : Result := writeDone (s.acknowledge data)

/-- WR_IRQ_EN: the write of offset 0x08 (R140, 10_state.md R38). -/
def execWrIrqEn (data : Word) (s : State) : Result := writeDone { s with doneIe := bit0Of data }

/-- WR_SWD_EDGES: offset 0x0C is read-only (R85, R140, 10_state.md R39). -/
def execWrSwdEdges (data : Word) (s : State) : Result := writeIgnored data s

/-- WR_SWD_HUMID: offset 0x10 is read-only (R85, R140, 10_state.md R40). -/
def execWrSwdHumid (data : Word) (s : State) : Result := writeIgnored data s

/-- WR_SWD_TEMP: offset 0x14 is read-only (R85, R140, 10_state.md R41). -/
def execWrSwdTemp (data : Word) (s : State) : Result := writeIgnored data s

/-- WR_SWD_CSUM: offset 0x18 is read-only (R85, R140, 10_state.md R42). -/
def execWrSwdCsum (data : Word) (s : State) : Result := writeIgnored data s

/-- WR_SWD_TSTART: the write of offset 0x1C (R140, 10_state.md R43). -/
def execWrSwdTstart (data : Word) (s : State) : Result := writeDone { s with swd.tstart := low16Of data }

/-- WR_SWD_TIMEOUT: the write of offset 0x20 (R140, 10_state.md R44). -/
def execWrSwdTimeout (data : Word) (s : State) : Result := writeDone { s with swd.timeout := low16Of data }

/-- WR_TS: offset 0x24 is read-only (R85, R140, 10_state.md R45). -/
def execWrTs (data : Word) (s : State) : Result := writeIgnored data s

/-- WR_PIC_S: the write of offset 0x28 (R140, 10_state.md R48). -/
def execWrPicS (data : Word) (s : State) : Result := writeDone { s with pic.dayStart := data }

/-- WR_PIC_D: the write of offset 0x2C (R140, 10_state.md R49). -/
def execWrPicD (data : Word) (s : State) : Result := writeDone { s with pic.duration := data }

/-- WR_PIC_A: the write of offset 0x30 (R140, 10_state.md R50). -/
def execWrPicA (data : Word) (s : State) : Result := writeDone { s with pic.amplitude := data }

/-- WR_PIC_HOUR: the write of offset 0x34 (R140, 10_state.md R51). -/
def execWrPicHour (data : Word) (s : State) : Result := writeDone { s with pic.hour := data }

/-- WR_PIC_LUXIN: the write of offset 0x38 (R140, 10_state.md R52). -/
def execWrPicLuxin (data : Word) (s : State) : Result := writeDone { s with pic.luxIn := low18Of data }

/-- WR_PIC_CONSIGNE: offset 0x3C is read-only (R85, R140, 10_state.md R53). -/
def execWrPicConsigne (data : Word) (s : State) : Result := writeIgnored data s

/-- WR_PIC_LUX: offset 0x40 is read-only (R85, R140, 10_state.md R54). -/
def execWrPicLux (data : Word) (s : State) : Result := writeIgnored data s

/-- WR_PIC_LUXRAW: offset 0x44 is read-only (R85, R140, 10_state.md R55). -/
def execWrPicLuxraw (data : Word) (s : State) : Result := writeIgnored data s

/-- WR_PIC_INTEG: offset 0x48 is read-only (R85, R140, 10_state.md R56). -/
def execWrPicInteg (data : Word) (s : State) : Result := writeIgnored data s

/-- WR_PIC_OUTPUT: offset 0x4C is read-only (R85, R140, 10_state.md R57). -/
def execWrPicOutput (data : Word) (s : State) : Result := writeIgnored data s

/-- WR_PIC_PWM: offset 0x50 is read-only (R85, R140, 10_state.md R58). -/
def execWrPicPwm (data : Word) (s : State) : Result := writeIgnored data s

end Sys2Proof.Machine
end

