-- ==== Sys2Proof/Machine/Dispatch.lean ====
section
/-! DEFINITION. One arm for each constructor of Instr, in the order of spec/opcode_table.json: phase (c) of the cycle step
(40_cycle_and_bus.md R133). -/

namespace Sys2Proof.Machine

def exec (i : Instr) (s : State) : Host.Outcome State Fault Refusal :=
  match i with
  | .busErrorOdd we addr data => Sys2Proof.Machine.execBusErrorOdd we addr data s
  | .busErrorHalf we addr data => Sys2Proof.Machine.execBusErrorHalf we addr data s
  | .busErrorUnmapped54 we addr data => Sys2Proof.Machine.execBusErrorUnmapped54 we addr data s
  | .busErrorUnmapped58 we addr data => Sys2Proof.Machine.execBusErrorUnmapped58 we addr data s
  | .busErrorUnmapped60 we addr data => Sys2Proof.Machine.execBusErrorUnmapped60 we addr data s
  | .busErrorUnmapped80 we addr data => Sys2Proof.Machine.execBusErrorUnmapped80 we addr data s
  | .rdCmd => Sys2Proof.Machine.execRdCmd s
  | .rdStatus => Sys2Proof.Machine.execRdStatus s
  | .rdIrqEn => Sys2Proof.Machine.execRdIrqEn s
  | .rdSwdEdges => Sys2Proof.Machine.execRdSwdEdges s
  | .rdSwdHumid => Sys2Proof.Machine.execRdSwdHumid s
  | .rdSwdTemp => Sys2Proof.Machine.execRdSwdTemp s
  | .rdSwdCsum => Sys2Proof.Machine.execRdSwdCsum s
  | .rdSwdTstart => Sys2Proof.Machine.execRdSwdTstart s
  | .rdSwdTimeout => Sys2Proof.Machine.execRdSwdTimeout s
  | .rdTs => Sys2Proof.Machine.execRdTs s
  | .rdPicS => Sys2Proof.Machine.execRdPicS s
  | .rdPicD => Sys2Proof.Machine.execRdPicD s
  | .rdPicA => Sys2Proof.Machine.execRdPicA s
  | .rdPicHour => Sys2Proof.Machine.execRdPicHour s
  | .rdPicLuxin => Sys2Proof.Machine.execRdPicLuxin s
  | .rdPicConsigne => Sys2Proof.Machine.execRdPicConsigne s
  | .rdPicLux => Sys2Proof.Machine.execRdPicLux s
  | .rdPicLuxraw => Sys2Proof.Machine.execRdPicLuxraw s
  | .rdPicInteg => Sys2Proof.Machine.execRdPicInteg s
  | .rdPicOutput => Sys2Proof.Machine.execRdPicOutput s
  | .rdPicPwm => Sys2Proof.Machine.execRdPicPwm s
  | .nop => Sys2Proof.Machine.execNop s
  | .swdStart => Sys2Proof.Machine.execSwdStart s
  | .picSetpoint => Sys2Proof.Machine.execPicSetpoint s
  | .picLux => Sys2Proof.Machine.execPicLux s
  | .picRegulate => Sys2Proof.Machine.execPicRegulate s
  | .illegalCmd data => Sys2Proof.Machine.execIllegalCmd data s
  | .wrStatus data => Sys2Proof.Machine.execWrStatus data s
  | .wrIrqEn data => Sys2Proof.Machine.execWrIrqEn data s
  | .wrSwdEdges data => Sys2Proof.Machine.execWrSwdEdges data s
  | .wrSwdHumid data => Sys2Proof.Machine.execWrSwdHumid data s
  | .wrSwdTemp data => Sys2Proof.Machine.execWrSwdTemp data s
  | .wrSwdCsum data => Sys2Proof.Machine.execWrSwdCsum data s
  | .wrSwdTstart data => Sys2Proof.Machine.execWrSwdTstart data s
  | .wrSwdTimeout data => Sys2Proof.Machine.execWrSwdTimeout data s
  | .wrTs data => Sys2Proof.Machine.execWrTs data s
  | .wrPicS data => Sys2Proof.Machine.execWrPicS data s
  | .wrPicD data => Sys2Proof.Machine.execWrPicD data s
  | .wrPicA data => Sys2Proof.Machine.execWrPicA data s
  | .wrPicHour data => Sys2Proof.Machine.execWrPicHour data s
  | .wrPicLuxin data => Sys2Proof.Machine.execWrPicLuxin data s
  | .wrPicConsigne data => Sys2Proof.Machine.execWrPicConsigne data s
  | .wrPicLux data => Sys2Proof.Machine.execWrPicLux data s
  | .wrPicLuxraw data => Sys2Proof.Machine.execWrPicLuxraw data s
  | .wrPicInteg data => Sys2Proof.Machine.execWrPicInteg data s
  | .wrPicOutput data => Sys2Proof.Machine.execWrPicOutput data s
  | .wrPicPwm data => Sys2Proof.Machine.execWrPicPwm data s

end Sys2Proof.Machine
end

