-- ==== Sys2Proof/Machine/Step.lean ====
section
/-! DEFINITION. One cycle of the block (40_cycle_and_bus.md R130), and the placing of a transaction on the request ports of
the next cycle (log 3). -/

namespace Sys2Proof.Machine

/-- One cycle step: reset overrides all; else phases (a) and (b), then the cycle's transaction, if there is one, on the
state they leave (40_cycle_and_bus.md R130, R133). -/
def step (s : State) : Host.Outcome State Fault Refusal :=
  match s.nextInput.rst, s.nextInput.req with
  | true, _ => .next s.resetCycle
  | false, none => .next (s.internalPhases s.nextInput.dqIn)
  | false, some tw => exec (decodeTW tw) (s.internalPhases s.nextInput.dqIn)

/-- `s` with the transaction `w` on the request ports of the next cycle and `rst` = 0 there. An input record already
pending for that cycle keeps its line level; where there is none, the wire stays as it was (log 3). -/
def State.withFetchWord (s : State) (nbits w : Nat) : State :=
  let tw := BitVec.ofNat 41 (w % 2 ^ nbits)
  match s.pending with
  | [] => { s with pending := [{ rst := false, dqIn := s.swd.linePrev, req := some tw }] }
  | i :: rest => { s with pending := { rst := false, dqIn := i.dqIn, req := some tw } :: rest }

end Sys2Proof.Machine
end

