-- ==== Sys2Proof/Safety.lean ====
section
/-! DEFINITION. The terms the statements use: runs of several cycles, runs without reset, the invariants of the front end,
the controller and the time base, the two sides of the block that 42_acquisition.md R203 keeps apart, and what it means for a
binary32 result to be correctly rounded. -/

namespace Sys2Proof.Machine

/-- `n` cycle steps, stopping at the first fault or refusal. -/
def run : Nat → State → Result
  | 0, s => .next s
  | n + 1, s =>
    match step s with
    | .next t => run n t
    | .fault r => .fault r
    | .refused r => .refused r

/-- The first `n` cycles from `s` are cycles with `rst` = 0. -/
def NoReset (n : Nat) (s : State) : Prop := ∀ k, k < n → ∀ t, run k s = .next t → t.nextInput.rst = false

/-- The first `n` cycles from `s` are cycles with `rst` = 1. -/
def AllReset (n : Nat) (s : State) : Prop := ∀ k, k < n → ∀ t, run k s = .next t → t.nextInput.rst = true

/-- No transaction of the first `n` cycles from `s` is a SWD_START. -/
def NoStart (n : Nat) (s : State) : Prop :=
  ∀ k, k < n → ∀ t tw, run k s = .next t → t.nextInput.req = some tw → decodeTW tw ≠ .swdStart

/-- The time base: CLK_PER_US ≥ 1 and S.PRESC in [0, CLK_PER_US - 1] (00_scope.md R6, 10_state.md R60). -/
def State.timeOk (s : State) : Prop := 1 ≤ s.cfg.clkPerUs ∧ s.presc < s.cfg.clkPerUs

/-- What holds of the front end between cycles: EDGE_COUNT ≤ 84 (10_state.md R39); in REQUESTING, S.PCNT ≤ S.TSTART_L
(42_acquisition.md R192); in LISTENING, EDGE_COUNT < 84 and the window has not elapsed, or no tick has come
(R196); in DECODING, one of the two exit conditions holds (R196). -/
def State.acquisitionOk (s : State) : Prop :=
  s.swd.edgeCount.toNat ≤ 84 ∧
  (s.status.fsm = .requesting → s.swd.pcnt.toNat ≤ s.swd.tstartL.toNat) ∧
  (s.status.fsm = .listening →
    s.swd.edgeCount.toNat < 84 ∧ (s.swd.pcnt.toNat < s.swd.timeoutL.toNat ∨ s.swd.pcnt = 0)) ∧
  (s.status.fsm = .decoding → s.swd.edgeCount.toNat = 84 ∨ s.swd.timeoutL.toNat ≤ s.swd.pcnt.toNat)

/-- What holds of the committed reading: once SWD_DATA_VALID is 1 the frame words satisfy the checksum, before that they
are 0; a VALID result has SWD_DATA_VALID; and until the first commit nothing is reported (10_state.md R34, R35, R40 to
R42, 42_acquisition.md R199). -/
def State.readingOk (s : State) : Prop :=
  (s.status.dataValid = true → frameOk s.swd.humid s.swd.temp s.swd.csum = true) ∧
  (s.status.dataValid = false → s.swd.humid = 0 ∧ s.swd.temp = 0 ∧ s.swd.csum = 0) ∧
  (s.status.result = .valid → s.status.dataValid = true) ∧
  (s.status.result = .none → s.status.done = false ∧ s.status.dataValid = false)

/-- What holds of the controller of a default build: the consigne, the luminosity, the integrator and the output are
finite, the luminosity is not negative, the output lies in [+0.0, 255.0] and is not -0.0, and PIC_PWM is its rounded
value (43_controller.md R227, R231, R234, R235). -/
def State.controllerOk (s : State) : Prop :=
  isFinite (decodeF32 s.pic.consigne) = true ∧
  isFinite (decodeF32 s.pic.lux) = true ∧ fle fzero (decodeF32 s.pic.lux) = true ∧
  isFinite (decodeF32 s.pic.integ) = true ∧
  fle fzero (decodeF32 s.pic.output) = true ∧ fle (decodeF32 s.pic.output) (f32OfNat 255) = true ∧
  s.pic.output ≠ 0x80000000#32 ∧
  s.pic.pwm = u8 (decodeF32 s.pic.output)

/-- The front end's side of the block: its registers and hidden state, the time base, its STATUS fields and the interrupt
enable. -/
def sameFrontEnd (s t : State) : Prop :=
  s.cfg.clkPerUs = t.cfg.clkPerUs ∧ s.swd = t.swd ∧ s.ts = t.ts ∧ s.presc = t.presc ∧ s.doneIe = t.doneIe ∧
  s.status.result = t.status.result ∧ s.status.fsm = t.status.fsm ∧ s.status.dataValid = t.status.dataValid ∧
  s.status.done = t.status.done ∧ s.status.edge0Level = t.status.edge0Level ∧
  s.status.errStartBusy = t.status.errStartBusy

/-- The controller's side of the block: its parameters, its registers and its STATUS fields. -/
def sameController (s t : State) : Prop :=
  s.cfg = t.cfg ∧ s.pic = t.pic ∧ s.status.luxValid = t.status.luxValid ∧
  s.status.luxShort = t.status.luxShort ∧ s.status.cfgErr = t.status.cfgErr ∧
  s.status.numErr = t.status.numErr ∧ s.status.pwmChanged = t.status.pwmChanged ∧
  s.status.awFrozen = t.status.awFrozen

/-- The front end after the edges 0 to n-1, the k-th with timestamp `time k`. -/
def captureEdges (time : Nat → Word) : Nat → Swd → Swd
  | 0, w => w
  | n + 1, w => (captureEdges time n w).captureEdge (time n)

/-- The interval d[n], modulo 2^32 (41_edge_capture_decoder.md R164). -/
def interval (time : Nat → Word) (n : Nat) : Word := time n - time (n - 1)

/-- Frame bit `k` in transmission order: decoded at edge 5 + 2k by comparing d[5+2k] with d[4+2k]
(41_edge_capture_decoder.md R165, R167). -/
def frameBit (time : Nat → Word) (k : Nat) : Bool :=
  decide ((interval time (4 + 2 * k)).toNat < (interval time (5 + 2 * k)).toNat)

/-- The sign bit of a value (00_scope.md R11). -/
def f32IsNeg : F32 → Bool
  | .nan => false
  | .inf neg => neg
  | .fin neg _ => neg

/-- The rational number a finite value stands for (00_scope.md R11); 0 for the others. -/
def f32Val : F32 → ℚ
  | .fin neg mag => (signedMag neg mag : ℚ) / 2 ^ 149
  | _ => 0

/-- A value among the rationals with a least and a greatest element, the infinities; a NaN has no place and gets 0. -/
def f32Ext : F32 → WithBot (WithTop ℚ)
  | .inf true => ⊥
  | .inf false => ((⊤ : WithTop ℚ) : WithBot (WithTop ℚ))
  | x => ((f32Val x : WithTop ℚ) : WithBot (WithTop ℚ))

/-- `r` is the exact number `q` rounded to binary32 (00_scope.md R12, roundTiesToEven): infinity from 2^128 - 2^103 on, else a
value of an encoding with the sign of `q` to which no finite encoding is nearer, and of two as near one with an even
significand; an exact zero has the sign `zeroNeg`. -/
def CorrectlyRounded (q : ℚ) (zeroNeg : Bool) (r : F32) : Prop :=
  (2 ^ 128 - 2 ^ 103 ≤ |q| → r = .inf (decide (q < 0))) ∧
  (|q| < 2 ^ 128 - 2 ^ 103 →
    ∃ w : Word, decodeF32 w = r ∧ isFinite r = true ∧
      w.getLsbD 31 = (if q = 0 then zeroNeg else decide (q < 0)) ∧
      ∀ v : Word, isFinite (decodeF32 v) = true →
        |q - f32Val r| ≤ |q - f32Val (decodeF32 v)| ∧
        (f32Val (decodeF32 v) ≠ f32Val r → |q - f32Val r| = |q - f32Val (decodeF32 v)| → w.getLsbD 0 = false))

end Sys2Proof.Machine
end

