-- ==== Sys2Proof/Certificates/Slice0/Obligations.lean ====
section
/-! DEFINITION. The statements for the provers, from the numbered rules of spec/. Where a clause rests on a choice of the model,
its docstring names the log entry. -/

open Sys2Proof Sys2Proof.Machine

/-! ### Encoding (30_encoding.md) -/

/-- Decoding the word of a well-formed instruction gives it back, as a word, as bytes and as a table word (R101, R103,
R104; the six-byte layout is the model's choice, log 1). -/
def Obligations.DecodeOfEncodeIsIdentity : Prop :=
  ∀ i : Instr, i.wellFormed = true →
    decodeTW (encode i) = i ∧ decodeBytes (encodeBytes i) = .ok i ∧
    decodeTableWord 48 (encode i).toNat = some i

/-- Every 41-bit word decodes to a well-formed instruction, and encoding it gives the word back but for the ignored DATA of a
read of a mapped register, which becomes the 0 of R101's canonical read words (R101, R104). That a misaligned or unmapped read
keeps its DATA is the model's choice (log 11). -/
def Obligations.EncodeOfDecodeIsCanonical : Prop :=
  ∀ tw : TW, (decodeTW tw).wellFormed = true ∧ encode (decodeTW tw) = canonicalTW tw

/-- R104: the order of precedence, and the first matching row of the opcode table. That a bus error is one of six constructors,
one for each row, and that each keeps its word's fields is the model's choice (logs 14 and 11). -/
def Obligations.DecodeFollowsThePrecedence : Prop :=
  ∀ tw : TW,
    (∃ r, firstRow tw = some r ∧ r.priority = (decodeTW tw).row) ∧
    (if addrOf tw &&& 3#8 ≠ 0#8 ∨ 0x50 < (addrOf tw).toNat then
       (decodeTW tw).row ≤ 6 ∧ encode (decodeTW tw) = tw
     else ∃ r : Reg, r.offset = addrOf tw ∧
       if weOf tw = false then decodeTW tw = decodeRead r
       else if addrOf tw = 0#8 then
         if (dataOf tw).extractLsb' 8 24 ≠ 0#24 ∨ 4 < ((dataOf tw).extractLsb' 0 8).toNat then
           decodeTW tw = .illegalCmd (dataOf tw)
         else [Instr.nop, .swdStart, .picSetpoint, .picLux, .picRegulate][(dataOf tw).toNat]? = some (decodeTW tw)
       else r ≠ .cmd ∧ decodeTW tw = decodeWrite (dataOf tw) r)

/-- Words written out from the encodings of R101 and R103, one for each family. -/
def Obligations.SpecWordsDecode : Prop :=
  decodeTW 0x10000000000#41 = .nop ∧ decodeTW 0x10000000001#41 = .swdStart ∧
  decodeTW 0x10000000004#41 = .picRegulate ∧ decodeTW 0x10080000001#41 = .illegalCmd 0x80000001#32 ∧
  decodeTW 0x004FFFFFFFF#41 = .rdStatus ∧ decodeTW 0x05000000000#41 = .rdPicPwm ∧
  decodeTW 0x10400000020#41 = .wrStatus 0x20#32 ∧ decodeTW 0x12400000005#41 = .wrTs 5#32 ∧
  decodeTW 0x05400000000#41 = .busErrorUnmapped54 false 0x54#8 0#32 ∧
  decodeTW 0x10100000001#41 = .busErrorOdd true 0x01#8 1#32

/-! ### The cycle step (40_cycle_and_bus.md, 70_reset_and_hazards.md) -/

/-- A cycle whose request is the word of a well-formed instruction runs that instruction on the state that phases (a) and
(b) leave; so does any word, with the instruction it decodes to (R130, R133). -/
def Obligations.StepRunsTheDecodedTransaction : Prop :=
  (∀ (s : State) (tw : TW), s.nextInput.rst = false → s.nextInput.req = some tw →
    step s = exec (decodeTW tw) (s.internalPhases s.nextInput.dqIn)) ∧
  (∀ (s : State) (i : Instr), i.wellFormed = true → s.nextInput.rst = false → s.nextInput.req = some (encode i) →
    step s = exec i (s.internalPhases s.nextInput.dqIn))

/-- The phases of R130, in their order, and a cycle with no transaction: `rdata` = 0, `bus_err` = 0 (R130, R133) and
`pwm_we` = 0 (R68). -/
def Obligations.CycleWithoutTransaction : Prop :=
  ∀ s : State, s.nextInput.rst = false → s.nextInput.req = none →
    ∃ t, step s = .next t ∧
      t = fsmPhase s.usTick s.status.fsm (edgePhase s.nextInput.dqIn s.status.fsm (timerPhase s.beginCycle)) ∧
      t.rdata = 0#32 ∧ t.busErr = false ∧ t.pwmWe = false

/-- "The block never halts": every instruction in every state, and every cycle, answers a next state (R263, R282). -/
def Obligations.EveryCycleCompletes : Prop :=
  (∀ (i : Instr) (s : State), ∃ t, exec i s = .next t) ∧ (∀ s : State, ∃ t, step s = .next t)

/-- A cycle with `rst` = 1, and any number of them in a row from the first on, leave the reset state, whatever the wire and
the request were (R290, R291). What becomes of the environment's records, `pending` and `cycle`, is the model's choice (log 2). -/
def Obligations.ResetOverridesTheCycle : Prop :=
  ∀ (n : Nat) (s : State), AllReset (n + 1) s →
    ∃ t, run (n + 1) s = .next t ∧
      t = { State.resetWith s.cfg with pending := s.pending.drop (n + 1), cycle := s.cycle + (n + 1) } ∧
      t.dqOe = false ∧ t.pwmDuty = 0#8 ∧ t.pwmWe = false ∧ t.irq = false ∧ t.rdata = 0#32 ∧ t.busErr = false

/-- R291: the reset value of every register, read at its offset, and of every piece of hidden state. -/
def Obligations.ResetValues : Prop :=
  (∀ r : Reg, regImage State.reset r =
    match r with
    | .swdTstart => 0x000003E8#32
    | .swdTimeout => 0x00002710#32
    | .picS => 0x40C00000#32
    | .picD => 0x41600000#32
    | .picA => 0x447A0000#32
    | _ => 0#32) ∧
  State.reset.presc = 0 ∧ State.reset.swd.linePrev = true ∧ State.reset.swd.pcnt = 0#17 ∧
  State.reset.swd.tstartL = 1000#16 ∧ State.reset.swd.timeoutL = 10000#16 ∧
  State.reset.swd.tPrev = 0#32 ∧ State.reset.swd.dPrev = 0#32 ∧
  State.reset.swd.accH = 0#16 ∧ State.reset.swd.accT = 0#16 ∧ State.reset.swd.accC = 0#8

/-- R131, R132 over any run without reset: S.PRESC counts modulo CLK_PER_US and TS counts the us_ticks modulo 2^32; and
R293: from the reset state TS is floor((k + 1) / m) at the end of cycle k. -/
def Obligations.TimestampCountsMicroseconds : Prop :=
  (∀ (n : Nat) (s t : State), s.timeOk → NoReset n s → run n s = .next t →
    t.presc = (s.presc + n) % s.cfg.clkPerUs ∧
    t.ts = s.ts + BitVec.ofNat 32 ((s.presc + n) / s.cfg.clkPerUs)) ∧
  (∀ (cfg : Config.Params) (ps : List Input) (c k : Nat) (t : State), 1 ≤ cfg.clkPerUs →
    NoReset (k + 1) { State.resetWith cfg with pending := ps, cycle := c } →
    run (k + 1) { State.resetWith cfg with pending := ps, cycle := c } = .next t →
    t.ts = BitVec.ofNat 32 ((k + 1) / cfg.clkPerUs))

/-- R60: S.PRESC stays in [0, CLK_PER_US - 1], and CLK_PER_US stays a legal parameter. -/
def Obligations.StepKeepsTimeBase : Prop :=
  ∀ s t : State, s.timeOk → step s = .next t → t.timeOk

/-- The build parameters are fixed for one instance (00_scope.md R6, R7): no step changes them, a reset cycle included. -/
def Obligations.StepKeepsParameters : Prop :=
  ∀ s t : State, step s = .next t → t.cfg = s.cfg

/-! ### Register access (10_state.md, 20_memory.md, 40_cycle_and_bus.md) -/

/-- R34 to R36: each field of STATUS at its bits, SWD_RESULT and SWD_STATE with the numbers of their encodings; the reserved
bits are 0. -/
def Obligations.StatusFieldsAtTheirBits : Prop :=
  ∀ st : Status,
    st.image.extractLsb' 0 2 =
      (match st.result with
      | .none => 0#2
      | .valid => 1#2
      | .timeout => 2#2
      | .checksumMismatch => 3#2) ∧
    st.image.extractLsb' 2 2 =
      (match st.fsm with
      | .idle => 0#2
      | .requesting => 1#2
      | .listening => 2#2
      | .decoding => 3#2) ∧
    st.image.getLsbD 4 = st.dataValid ∧ st.image.getLsbD 5 = st.done ∧ st.image.getLsbD 6 = st.edge0Level ∧
    st.image.getLsbD 7 = st.luxValid ∧ st.image.getLsbD 8 = st.errIllegalCmd ∧
    st.image.getLsbD 9 = st.errStartBusy ∧ st.image.getLsbD 10 = st.luxShort ∧ st.image.getLsbD 11 = st.cfgErr ∧
    st.image.getLsbD 12 = st.numErr ∧ st.image.getLsbD 13 = st.pwmChanged ∧ st.image.getLsbD 14 = st.awFrozen ∧
    st.image.getLsbD 15 = st.errBus ∧ st.image.extractLsb' 16 16 = 0#16

/-- R139: each of the 21 reads answers a next state that differs in the response alone: the register on `rdata`, its fields
in the low bits with zeros above, `bus_err` = 0. -/
def Obligations.ReadsAnswerTheRegister : Prop :=
  ∀ s : State,
    let ok (v : Word) : Result := .next { s with rdata := v, busErr := false }
    exec .rdCmd s = ok 0#32 ∧ exec .rdStatus s = ok s.status.image ∧
    exec .rdIrqEn s = ok ((BitVec.ofBool s.doneIe).setWidth 32) ∧
    exec .rdSwdEdges s = ok (s.swd.edgeCount.setWidth 32) ∧ exec .rdSwdHumid s = ok (s.swd.humid.setWidth 32) ∧
    exec .rdSwdTemp s = ok (s.swd.temp.setWidth 32) ∧ exec .rdSwdCsum s = ok (s.swd.csum.setWidth 32) ∧
    exec .rdSwdTstart s = ok (s.swd.tstart.setWidth 32) ∧ exec .rdSwdTimeout s = ok (s.swd.timeout.setWidth 32) ∧
    exec .rdTs s = ok s.ts ∧ exec .rdPicS s = ok s.pic.dayStart ∧ exec .rdPicD s = ok s.pic.duration ∧
    exec .rdPicA s = ok s.pic.amplitude ∧ exec .rdPicHour s = ok s.pic.hour ∧
    exec .rdPicLuxin s = ok (s.pic.luxIn.setWidth 32) ∧ exec .rdPicConsigne s = ok s.pic.consigne ∧
    exec .rdPicLux s = ok s.pic.lux ∧ exec .rdPicLuxraw s = ok (s.pic.luxRaw.setWidth 32) ∧
    exec .rdPicInteg s = ok s.pic.integ ∧ exec .rdPicOutput s = ok s.pic.output ∧
    exec .rdPicPwm s = ok (s.pic.pwm.setWidth 32)

/-- R136: a read returns the register as phases (a) and (b) of its own cycle left it, which is how the cycle leaves it; the
rule's three examples: TS in a tick cycle, STATUS in the cycle of a commit, SWD_EDGES in the cycle of an edge. -/
def Obligations.ReadSeesItsOwnCycle : Prop :=
  ∀ (s : State) (tw : TW) (r : Reg),
    s.nextInput.rst = false → s.nextInput.req = some tw → decodeTW tw = decodeRead r →
    ∃ t, step s = .next t ∧ t.busErr = false ∧
      t.rdata = regImage (s.internalPhases s.nextInput.dqIn) r ∧ t.rdata = regImage t r ∧
      (r = .ts → s.usTick = true → t.rdata = s.ts + 1#32) ∧
      (r = .status → s.status.fsm = .decoding → t.rdata.getLsbD 5 = true ∧ t.rdata.extractLsb' 2 2 = 0#2) ∧
      (r = .swdEdges → edgeCaptured s.nextInput.dqIn s.status.fsm s.swd = true →
        t.rdata = (s.swd.edgeCount + 1#7).setWidth 32)

/-- R84: `bus_err` = 1 iff the offset is misaligned or unmapped; such a transaction answers `rdata` = 0 and sets ERR_BUS, and
that is its one effect. The six constructors, and every transaction word. -/
def Obligations.BusErrorHasOneEffect : Prop :=
  (∀ (we : Bool) (addr : Byte) (data : Word) (s : State),
    let err : Result := .next { s with status.errBus := true, rdata := 0#32, busErr := true }
    exec (.busErrorOdd we addr data) s = err ∧ exec (.busErrorHalf we addr data) s = err ∧
    exec (.busErrorUnmapped54 we addr data) s = err ∧ exec (.busErrorUnmapped58 we addr data) s = err ∧
    exec (.busErrorUnmapped60 we addr data) s = err ∧ exec (.busErrorUnmapped80 we addr data) s = err) ∧
  (∀ (tw : TW) (s : State),
    (addrOf tw &&& 3#8 ≠ 0#8 ∨ 0x50 < (addrOf tw).toNat →
      exec (decodeTW tw) s = .next { s with status.errBus := true, rdata := 0#32, busErr := true }) ∧
    (¬(addrOf tw &&& 3#8 ≠ 0#8 ∨ 0x50 < (addrOf tw).toNat) →
      ∃ t, exec (decodeTW tw) s = .next t ∧ t.busErr = false ∧ (t.status.errBus = true → s.status.errBus = true)))

/-- R85: writes of the eleven read-only registers answer and do nothing else; CMD reads 0; reserved bits read 0, and a write
to one is ignored. -/
def Obligations.ReadOnlyAndReservedIgnoreWrites : Prop :=
  (∀ (s : State) (d : Word),
    let ignored : Result := .next { s with rdata := 0#32, busErr := false }
    exec (.wrSwdEdges d) s = ignored ∧ exec (.wrSwdHumid d) s = ignored ∧ exec (.wrSwdTemp d) s = ignored ∧
    exec (.wrSwdCsum d) s = ignored ∧ exec (.wrTs d) s = ignored ∧ exec (.wrPicConsigne d) s = ignored ∧
    exec (.wrPicLux d) s = ignored ∧ exec (.wrPicLuxraw d) s = ignored ∧ exec (.wrPicInteg d) s = ignored ∧
    exec (.wrPicOutput d) s = ignored ∧ exec (.wrPicPwm d) s = ignored ∧ exec .rdCmd s = ignored) ∧
  (∀ s : State,
    regImage s .status >>> 16 = 0#32 ∧ regImage s .irqEn >>> 1 = 0#32 ∧ regImage s .swdEdges >>> 7 = 0#32 ∧
    regImage s .swdHumid >>> 16 = 0#32 ∧ regImage s .swdTemp >>> 16 = 0#32 ∧ regImage s .swdCsum >>> 8 = 0#32 ∧
    regImage s .swdTstart >>> 16 = 0#32 ∧ regImage s .swdTimeout >>> 16 = 0#32 ∧
    regImage s .picLuxin >>> 18 = 0#32 ∧ regImage s .picLuxraw >>> 16 = 0#32 ∧ regImage s .picPwm >>> 8 = 0#32) ∧
  (∀ (s : State) (d : Word),
    exec (.wrStatus d) s = exec (.wrStatus (d &&& 0xFFFF#32)) s ∧
    exec (.wrIrqEn d) s = exec (.wrIrqEn (d &&& 1#32)) s ∧
    exec (.wrSwdTstart d) s = exec (.wrSwdTstart (d &&& 0xFFFF#32)) s ∧
    exec (.wrSwdTimeout d) s = exec (.wrSwdTimeout (d &&& 0xFFFF#32)) s ∧
    exec (.wrPicLuxin d) s = exec (.wrPicLuxin (d &&& 0x3FFFF#32)) s)

/-- R140 for the nine writable registers: each write answers a next state in which its own fields come from DATA and nothing
else but the response changes. -/
def Obligations.WritesStoreTheirFields : Prop :=
  ∀ (s : State) (d : Word),
    exec (.wrStatus d) s = .next
      { s with
        status.done := s.status.done && (!d.getLsbD 5 || s.doneSetB)
        status.errIllegalCmd := s.status.errIllegalCmd && !d.getLsbD 8
        status.errStartBusy := s.status.errStartBusy && !d.getLsbD 9
        status.luxShort := s.status.luxShort && !d.getLsbD 10
        status.cfgErr := s.status.cfgErr && !d.getLsbD 11
        status.numErr := s.status.numErr && !d.getLsbD 12
        status.pwmChanged := s.status.pwmChanged && !d.getLsbD 13
        status.errBus := s.status.errBus && !d.getLsbD 15
        rdata := 0#32
        busErr := false } ∧
    exec (.wrIrqEn d) s = .next { s with doneIe := d.getLsbD 0, rdata := 0#32, busErr := false } ∧
    exec (.wrSwdTstart d) s = .next { s with swd.tstart := d.extractLsb' 0 16, rdata := 0#32, busErr := false } ∧
    exec (.wrSwdTimeout d) s = .next { s with swd.timeout := d.extractLsb' 0 16, rdata := 0#32, busErr := false } ∧
    exec (.wrPicS d) s = .next { s with pic.dayStart := d, rdata := 0#32, busErr := false } ∧
    exec (.wrPicD d) s = .next { s with pic.duration := d, rdata := 0#32, busErr := false } ∧
    exec (.wrPicA d) s = .next { s with pic.amplitude := d, rdata := 0#32, busErr := false } ∧
    exec (.wrPicHour d) s = .next { s with pic.hour := d, rdata := 0#32, busErr := false } ∧
    exec (.wrPicLuxin d) s = .next { s with pic.luxIn := d.extractLsb' 0 18, rdata := 0#32, busErr := false }

/-- R137: SWD_DONE is the only flag phase (b) sets; a write of STATUS sets none; and where phase (b) of the cycle of a W1C of
SWD_DONE commits, SWD_DONE is 1 at its end. -/
def Obligations.SetWinsOverClear : Prop :=
  (∀ (s : State) (dq : Bool),
    let t := s.internalPhases dq
    t.status.errIllegalCmd = s.status.errIllegalCmd ∧ t.status.errStartBusy = s.status.errStartBusy ∧
    t.status.luxShort = s.status.luxShort ∧ t.status.cfgErr = s.status.cfgErr ∧
    t.status.numErr = s.status.numErr ∧ t.status.pwmChanged = s.status.pwmChanged ∧
    t.status.errBus = s.status.errBus ∧
    (t.status.done = true ↔ s.status.done = true ∨ s.status.fsm = .decoding)) ∧
  (∀ (s : State) (d : Word), s.nextInput.rst = false → s.nextInput.req = some (packTW true 0x04#8 d) →
    ∃ t, step s = .next t ∧
      (s.status.fsm = .decoding → t.status.done = true) ∧
      (s.status.fsm ≠ .decoding → t.status.done = (s.status.done && !d.getLsbD 5)) ∧
      t.status.errIllegalCmd = (s.status.errIllegalCmd && !d.getLsbD 8) ∧
      t.status.errStartBusy = (s.status.errStartBusy && !d.getLsbD 9) ∧
      t.status.luxShort = (s.status.luxShort && !d.getLsbD 10) ∧
      t.status.cfgErr = (s.status.cfgErr && !d.getLsbD 11) ∧
      t.status.numErr = (s.status.numErr && !d.getLsbD 12) ∧
      t.status.pwmChanged = (s.status.pwmChanged && !d.getLsbD 13) ∧
      t.status.errBus = (s.status.errBus && !d.getLsbD 15))

/-- R89: reads change nothing but the response, and a read or a register write done twice leaves what it left once. -/
def Obligations.AccessesAreIdempotent : Prop :=
  (∀ (s : State) (r : Reg), exec (decodeRead r) s = .next { s with rdata := regImage s r, busErr := false }) ∧
  (∀ (s t : State) (d : Word) (r : Reg) (i : Instr), i = decodeRead r ∨ (r ≠ .cmd ∧ i = decodeWrite d r) →
    exec i s = .next t → exec i t = .next t)

/-- R37: a sticky flag that is 1 stays 1 through a cycle unless the cycle is a host write of STATUS with its bit, or a reset. -/
def Obligations.FlagsAreSticky : Prop :=
  ∀ s t : State, s.nextInput.rst = false → step s = .next t →
    let cleared (k : Nat) : Prop := ∃ d : Word, s.nextInput.req = some (packTW true 0x04#8 d) ∧ d.getLsbD k = true
    (s.status.done = true → t.status.done = true ∨ cleared 5) ∧
    (s.status.errIllegalCmd = true → t.status.errIllegalCmd = true ∨ cleared 8) ∧
    (s.status.errStartBusy = true → t.status.errStartBusy = true ∨ cleared 9) ∧
    (s.status.luxShort = true → t.status.luxShort = true ∨ cleared 10) ∧
    (s.status.cfgErr = true → t.status.cfgErr = true ∨ cleared 11) ∧
    (s.status.numErr = true → t.status.numErr = true ∨ cleared 12) ∧
    (s.status.pwmChanged = true → t.status.pwmChanged = true ∨ cleared 13) ∧
    (s.status.errBus = true → t.status.errBus = true ∨ cleared 15)

/-- R263: with any combination of sticky flags and any result code, every command and access behaves exactly as with none: it
leaves the same state but for those flags and that code. A read of STATUS is the one that returns them. -/
def Obligations.FlagsChangeNoBehaviour : Prop :=
  ∀ (i : Instr) (s t u : State),
    let unflag (x : State) : State := { x with status := { x.status.ack 0xFFFFFFFF#32 false with result := .none } }
    exec i s = .next t → exec i (unflag s) = .next u →
    { unflag t with rdata := 0#32 } = { unflag u with rdata := 0#32 } ∧ (i ≠ .rdStatus → t.rdata = u.rdata)

/-- R270, R271: after every step, a reset included, `irq` is SWD_DONE AND DONE_IE. Without reset: it rises only by the commit of
the cycle or by a write that sets DONE_IE, and no error flag drives it; the commit raises it where DONE_IE is 1 at the end, and a
write of IRQ_EN raises or masks it by its bit; it falls by a write of STATUS with SWD_DONE's bit outside a commit cycle, and by
nothing but that or a write of IRQ_EN with bit 0 = 0. -/
def Obligations.InterruptRisesOnlyByCommitOrEnable : Prop :=
  (∀ s t : State, step s = .next t → (t.irq = true ↔ t.status.done = true ∧ t.doneIe = true)) ∧
  (∀ s t : State, s.nextInput.rst = false → step s = .next t →
    let statusWrite (d : Word) : Prop := s.nextInput.req = some (packTW true 0x04#8 d)
    let enableWrite (d : Word) : Prop := s.nextInput.req = some (packTW true 0x08#8 d)
    (t.irq = true → s.irq = true ∨ s.status.fsm = .decoding ∨ ∃ d, enableWrite d ∧ d.getLsbD 0 = true) ∧
    (s.status.fsm = .decoding → t.doneIe = true → t.irq = true) ∧
    (∀ d, enableWrite d →
      (t.irq = true ↔ d.getLsbD 0 = true ∧ (s.status.done = true ∨ s.status.fsm = .decoding))) ∧
    (∀ d, statusWrite d → d.getLsbD 5 = true → s.status.fsm ≠ .decoding → t.irq = false) ∧
    (s.irq = true →
      t.irq = true ∨ (∃ d, statusWrite d ∧ d.getLsbD 5 = true) ∨ ∃ d, enableWrite d ∧ d.getLsbD 0 = false))

/-! ### Commands without a component -/

/-- R142: NOP's word, its effect, and "after `CMD NOP` the state equals the state of a cycle with no transaction". -/
def Obligations.NopIsACycleWithoutTransaction : Prop :=
  encode .nop = 0x10000000000#41 ∧
  (∀ s : State, exec .nop s = .next { s with rdata := 0#32, busErr := false }) ∧
  (∀ (s : State) (dq : Bool) (rest : List Input),
    step { s with pending := { rst := false, dqIn := dq, req := some 0x10000000000#41 } :: rest } =
    step { s with pending := { rst := false, dqIn := dq, req := none } :: rest })

/-- R143: any CMD write with DATA[31:8] ≠ 0 or DATA[7:0] ≥ 0x05 sets ERR_ILLEGAL_CMD, answers with `bus_err` = 0, and changes
nothing else: an acquisition in progress continues. -/
def Obligations.IllegalCommandSetsItsFlag : Prop :=
  (∀ (d : Word) (s : State),
    exec (.illegalCmd d) s = .next { s with status.errIllegalCmd := true, rdata := 0#32, busErr := false }) ∧
  (∀ (d : Word) (s : State), d.extractLsb' 8 24 ≠ 0#24 ∨ 5 ≤ (d.extractLsb' 0 8).toNat →
    s.nextInput.rst = false → s.nextInput.req = some (packTW true 0x00#8 d) →
    step s = .next { s.internalPhases s.nextInput.dqIn with status.errIllegalCmd := true })

/-! ### Edge capture and decoding (41_edge_capture_decoder.md) -/

/-- R160 to R166: the edge phase. S.LINE_PREV takes the sample; an edge that is not captured changes nothing else; edge 0
records its level and time; edge n ≥ 1 updates the interval registers and shifts one bit into the accumulator of its range. -/
def Obligations.EdgePhaseCaptures : Prop :=
  ∀ (s : State) (dq : Bool) (st0 : SwdState),
    let n := s.swd.edgeCount.toNat
    let d := s.ts - s.swd.tPrev
    let bit : BitVec 1 := if s.swd.dPrev.toNat < d.toNat then 1#1 else 0#1
    (¬(dq ≠ s.swd.linePrev ∧ st0 = .listening ∧ n < 84) → edgePhase dq st0 s = { s with swd.linePrev := dq }) ∧
    (dq ≠ s.swd.linePrev → st0 = .listening → n = 0 →
      edgePhase dq st0 s =
        { s with swd.linePrev := dq, swd.tPrev := s.ts, swd.edgeCount := 1#7, status.edge0Level := dq }) ∧
    (dq ≠ s.swd.linePrev → st0 = .listening → 1 ≤ n → n < 84 →
      edgePhase dq st0 s =
        { s with
          swd.linePrev := dq
          swd.tPrev := s.ts
          swd.dPrev := d
          swd.edgeCount := BitVec.ofNat 7 (n + 1)
          swd.accH := if n % 2 = 1 ∧ 5 ≤ n ∧ n ≤ 35 then s.swd.accH.extractLsb' 0 15 ++ bit else s.swd.accH
          swd.accT := if n % 2 = 1 ∧ 37 ≤ n ∧ n ≤ 67 then s.swd.accT.extractLsb' 0 15 ++ bit else s.swd.accT
          swd.accC := if n % 2 = 1 ∧ 69 ≤ n ∧ n ≤ 83 then s.swd.accC.extractLsb' 0 7 ++ bit else s.swd.accC })

/-- R167: after 84 edges with any timestamps, from any accumulators, frame bit k stands at its destination. -/
def Obligations.CompleteFrameMapsTheBits : Prop :=
  ∀ (time : Nat → Word) (w : Swd), w.edgeCount = 0#7 →
    let f := captureEdges time 84 w
    f.edgeCount = 84#7 ∧
    (∀ k, k < 16 → f.accH.getLsbD (15 - k) = frameBit time k) ∧
    (∀ k, 16 ≤ k → k < 32 → f.accT.getLsbD (31 - k) = frameBit time k) ∧
    (∀ k, 32 ≤ k → k < 40 → f.accC.getLsbD (39 - k) = frameBit time k)

/-- R168: the checksum is the sum of the four data bytes modulo 256, with the source's worked example. -/
def Obligations.ChecksumIsTheByteSum : Prop :=
  (∀ (h t : BitVec 16) (c : BitVec 8),
    frameOk h t c = true ↔
      (h.toNat / 256 + h.toNat % 256 + t.toNat / 256 + t.toNat % 256) % 256 = c.toNat) ∧
  frameSum 0x0258#16 0x00C8#16 = 0x22#8

/-! ### The acquisition state machine (42_acquisition.md) -/

/-- R190: SWD_START in IDLE starts an acquisition and latches both durations; else it sets ERR_START_BUSY and changes nothing
else. In the cycle of a commit it is accepted. From reset it gives REQUESTING and `dq_oe` = 1. -/
def Obligations.StartAcceptedOnlyWhenIdle : Prop :=
  encode .swdStart = 0x10000000001#41 ∧
  (∀ s : State, s.status.fsm = .idle →
    exec .swdStart s = .next
      { s with
        status.fsm := .requesting
        swd.pcnt := 0#17
        swd.tstartL := s.swd.tstart
        swd.timeoutL := s.swd.timeout
        rdata := 0#32
        busErr := false }) ∧
  (∀ s : State, s.status.fsm ≠ .idle →
    exec .swdStart s = .next { s with status.errStartBusy := true, rdata := 0#32, busErr := false }) ∧
  (∀ s : State, s.nextInput.rst = false → s.nextInput.req = some 0x10000000001#41 →
    s.status.fsm = .idle ∨ s.status.fsm = .decoding →
    ∃ t, step s = .next t ∧ t.status.fsm = .requesting ∧ t.dqOe = true ∧
      t.status.errStartBusy = s.status.errStartBusy ∧
      t.swd.tstartL = s.swd.tstart ∧ t.swd.timeoutL = s.swd.timeout ∧
      (s.status.fsm = .decoding → t.status.done = true))

/-- R191: in IDLE phases (a) and (b) advance the time base and sample the wire, and nothing more; the wire is released; and
only SWD_START or reset leaves IDLE. -/
def Obligations.IdleWaitsForStart : Prop :=
  (∀ (s : State) (dq : Bool), s.status.fsm = .idle →
    s.internalPhases dq = { timerPhase s.beginCycle with swd.linePrev := dq } ∧ s.dqOe = false) ∧
  (∀ s t : State, s.status.fsm = .idle → step s = .next t → t.status.fsm ≠ .idle →
    s.nextInput.rst = false ∧ ∃ tw, s.nextInput.req = some tw ∧ decodeTW tw = .swdStart)

/-- R192, R193: in REQUESTING the wire is held low, a tick counts, and the tick that takes S.PCNT above S.TSTART_L releases the
wire and arms capture; no edge of these cycles is captured. -/
def Obligations.RequestingCountsAndArms : Prop :=
  ∀ (s : State) (dq : Bool), s.status.fsm = .requesting →
    let t := s.internalPhases dq
    let up := min (s.swd.pcnt.toNat + 1) (2 ^ 17 - 1)
    s.dqOe = true ∧
    (s.usTick = false → t.status = s.status ∧ t.swd = { s.swd with linePrev := dq }) ∧
    (s.usTick = true → up ≤ s.swd.tstartL.toNat →
      t.status = s.status ∧ t.swd = { s.swd with linePrev := dq, pcnt := BitVec.ofNat 17 up }) ∧
    (s.usTick = true → s.swd.tstartL.toNat < up →
      t.status = { s.status with fsm := .listening } ∧ t.dqOe = false ∧
      t.swd =
        { s.swd with
          linePrev := dq
          edgeCount := 0#7
          accH := 0#16
          accT := 0#16
          accC := 0#8
          tPrev := 0#32
          dPrev := 0#32
          pcnt := 0#17 })

/-- R195 to R197: in LISTENING a tick counts after the edge phase, and the state leaves for DECODING exactly where EDGE_COUNT
is 84, or the window has elapsed; the FSM phase changes nothing else. -/
def Obligations.ListeningEndsAtFrameOrTimeout : Prop :=
  ∀ (s : State) (dq : Bool), s.status.fsm = .listening →
    let e := edgePhase dq .listening (timerPhase s.beginCycle)
    let up := if s.usTick then min (s.swd.pcnt.toNat + 1) (2 ^ 17 - 1) else s.swd.pcnt.toNat
    s.internalPhases dq =
      { e with
        swd.pcnt := BitVec.ofNat 17 up
        status.fsm :=
          if e.swd.edgeCount.toNat = 84 ∨ e.swd.timeoutL.toNat ≤ up then .decoding else .listening }

/-- R199 in a whole cycle, whatever its transaction: a cycle that starts in DECODING commits, and its outcome is VALID with the
frame words, CHECKSUM_MISMATCH, or TIMEOUT, the last two with the prior reading untouched; SWD_DONE is 1; and a cycle that
starts in another state leaves the reading. -/
def Obligations.CommitAloneChangesTheReading : Prop :=
  ∀ s t : State, s.nextInput.rst = false → step s = .next t →
    let same : Prop := t.swd.humid = s.swd.humid ∧ t.swd.temp = s.swd.temp ∧ t.swd.csum = s.swd.csum ∧
      t.status.dataValid = s.status.dataValid
    (s.status.fsm ≠ .decoding → same ∧ t.status.result = s.status.result) ∧
    (s.status.fsm = .decoding →
      t.status.done = true ∧ t.swd.edgeCount = s.swd.edgeCount ∧ t.status.fsm ≠ .decoding ∧
      (t.status.fsm ≠ .idle → ∃ tw, s.nextInput.req = some tw ∧ decodeTW tw = .swdStart) ∧
      (s.swd.edgeCount.toNat = 84 → frameOk s.swd.accH s.swd.accT s.swd.accC = true →
        t.status.result = .valid ∧ t.swd.humid = s.swd.accH ∧ t.swd.temp = s.swd.accT ∧ t.swd.csum = s.swd.accC ∧
        t.status.dataValid = true) ∧
      (s.swd.edgeCount.toNat = 84 → frameOk s.swd.accH s.swd.accT s.swd.accC = false →
        t.status.result = .checksumMismatch ∧ same) ∧
      (s.swd.edgeCount.toNat ≠ 84 → t.status.result = .timeout ∧ same))

/-- R202: no transaction changes the course of an acquisition in progress: not its state, its counters, its latched durations,
its interval registers or its accumulators; a SWD_START is rejected. Without `rst` every acquisition runs on to its commit;
`rst` ends it without one. -/
def Obligations.NoCancellation : Prop :=
  (∀ (i : Instr) (s t : State), s.status.fsm ≠ .idle → exec i s = .next t →
    t.status.fsm = s.status.fsm ∧
    { t.swd with tstart := s.swd.tstart, timeout := s.swd.timeout } = s.swd) ∧
  (∀ s t : State, s.nextInput.rst = true → step s = .next t →
    t.status.fsm = .idle ∧ t.status.done = false ∧ t.status.result = .none) ∧
  (∀ s t : State, s.nextInput.rst = false → step s = .next t →
    (s.status.fsm = .requesting → t.status.fsm = .requesting ∨ t.status.fsm = .listening) ∧
    (s.status.fsm = .listening → t.status.fsm = .listening ∨ t.status.fsm = .decoding) ∧
    (s.status.fsm = .decoding → t.status.done = true ∧ t.status.result ≠ .none)) ∧
  (∀ s t : State, s.status.fsm ≠ .idle → exec .swdStart s = .next t → t.status.errStartBusy = true)

/-- R192: with the SWD_START accepted in the cycle that led to `s`, arming comes j cycles later with j in
[TSTART_L·CLK_PER_US + 1, (TSTART_L + 1)·CLK_PER_US], and `dq_oe` = 1 until then. -/
def Obligations.StartPulseLength : Prop :=
  ∀ s : State, s.timeOk → s.status.fsm = .requesting → s.swd.pcnt = 0#17 →
    NoReset ((s.swd.tstartL.toNat + 1) * s.cfg.clkPerUs) s →
    ∃ j, s.swd.tstartL.toNat * s.cfg.clkPerUs + 1 ≤ j ∧ j ≤ (s.swd.tstartL.toNat + 1) * s.cfg.clkPerUs ∧
      (∃ t, run j s = .next t ∧ t.status.fsm = .listening ∧ t.dqOe = false) ∧
      (∀ i, i < j → ∃ u, run i s = .next u ∧ u.status.fsm = .requesting ∧ u.dqOe = true)

/-- R201: with the SWD_START accepted in the cycle that led to `s`, a commit comes within
(TSTART_L + 1)·CLK_PER_US + max(1, TIMEOUT_L·CLK_PER_US) + 1 cycles, whatever the line and the host do. -/
def Obligations.AcquisitionTerminates : Prop :=
  ∀ s : State, s.timeOk → s.status.fsm = .requesting → s.swd.pcnt = 0#17 →
    let bound := (s.swd.tstartL.toNat + 1) * s.cfg.clkPerUs + max 1 (s.swd.timeoutL.toNat * s.cfg.clkPerUs) + 1
    NoReset bound s →
    ∃ c t u, c + 1 ≤ bound ∧ run c s = .next t ∧ t.status.fsm = .decoding ∧
      run (c + 1) s = .next u ∧ u.status.done = true ∧ u.status.result ≠ .none

/-- R302: without reset and without a SWD_START an IDLE block stays IDLE and its result words stay what they are, over any
number of cycles; SWD_DONE is not set. -/
def Obligations.IdleKeepsTheResult : Prop :=
  ∀ (n : Nat) (s t : State), s.status.fsm = .idle → NoReset n s → NoStart n s → run n s = .next t →
    t.status.fsm = .idle ∧ t.status.result = s.status.result ∧ t.status.dataValid = s.status.dataValid ∧
    t.status.edge0Level = s.status.edge0Level ∧ t.swd.edgeCount = s.swd.edgeCount ∧
    t.swd.humid = s.swd.humid ∧ t.swd.temp = s.swd.temp ∧ t.swd.csum = s.swd.csum ∧
    (s.status.done = false → t.status.done = false)

/-- Every step keeps the front end's invariant (R39, R192, R196). -/
def Obligations.StepKeepsAcquisition : Prop :=
  ∀ s t : State, s.acquisitionOk → step s = .next t → t.acquisitionOk

/-- Every step keeps the reading's invariant: an exposed reading always satisfies the checksum (R34, R35, R40 to R42, R199). -/
def Obligations.StepKeepsReading : Prop :=
  ∀ s t : State, s.readingOk → step s = .next t → t.readingOk

/-- The reset state meets every invariant. -/
def Obligations.ResetMeetsTheInvariants : Prop :=
  State.reset.timeOk ∧ State.reset.acquisitionOk ∧ State.reset.readingOk ∧ State.reset.controllerOk

/-! ### The two units (42_acquisition.md R203) -/

/-- R203: the front end's next state is a function of the front end and the inputs: no PIC register reaches it. -/
def Obligations.FrontEndIgnoresTheController : Prop :=
  ∀ s t s' t' : State, sameFrontEnd s t → s.nextInput = t.nextInput → step s = .next s' → step t = .next t' →
    sameFrontEnd s' t'

/-- R203: the controller's next state is a function of the controller and the inputs: no SWFD register reaches it. -/
def Obligations.ControllerIgnoresTheFrontEnd : Prop :=
  ∀ s t s' t' : State, sameController s t → s.nextInput = t.nextInput → step s = .next s' → step t = .next t' →
    sameController s' t'

/-! ### Binary32 (00_scope.md R7, R11 to R13) -/

/-- R12, rnd32: of every rational number of either sign it is a nearest finite binary32 value, of two nearest the one with an
even significand, and infinity exactly from 2^128 - 2^103 on; a result of 0 keeps the sign. The second part says it of the
encodings, magnitudes in units of 2^-149; the third that these encodings are the finite ones. -/
def Obligations.RoundingIsTiesToEven : Prop :=
  (∀ (neg : Bool) (num den : Nat), 0 < den →
    CorrectlyRounded ((if neg then -1 else 1) * ((num : ℚ) / den / 2 ^ 149)) neg (rnd32 neg num den)) ∧
  (∀ num den : Nat, 0 < den →
    let b := roundedBits num den
    b ≤ 0x7F800000 ∧
    (b = 0x7F800000 ↔ (2 ^ 277 - 2 ^ 252) * den ≤ num) ∧
    (b < 0x7F800000 → ∀ c, c < 0x7F800000 →
      |(num : ℤ) - den * magOfBits b| ≤ |(num : ℤ) - den * magOfBits c| ∧
      (c ≠ b → |(num : ℤ) - den * magOfBits b| = |(num : ℤ) - den * magOfBits c| → b % 2 = 0))) ∧
  (∀ (neg : Bool) (c : Nat), c < 0x7F800000 → decodeF32 (packF32 neg c) = .fin neg (magOfBits c))

/-- R11: the value of every encoding, by its sign bit, its 8 exponent bits and its 23 fraction bits, subnormals included; and the
image of a value that is no NaN gives the encoding back, bit for bit, the sign of zero included. The image of every value decodes
to it; the possible images of a NaN are exactly the NaN encodings, sign and payload being free (log 7). -/
def Obligations.EncodingsRoundTrip : Prop :=
  (∀ w : Word,
    let e := (w.extractLsb' 23 8).toNat
    let f := (w.extractLsb' 0 23).toNat
    (e = 255 → decodeF32 w = if f = 0 then .inf (w.getLsbD 31) else .nan) ∧
    (e < 255 →
      isFinite (decodeF32 w) = true ∧ f32IsNeg (decodeF32 w) = w.getLsbD 31 ∧
      f32Val (decodeF32 w) =
        (if w.getLsbD 31 then -1 else 1) *
          (if e = 0 then (f : ℚ) * 2 ^ (-149 : ℤ) else (1 + (f : ℚ) / 2 ^ 23) * 2 ^ ((e : ℤ) - 127)))) ∧
  (∀ w : Word, decodeF32 w ≠ .nan → encodeF32 (decodeF32 w) = w) ∧
  (∀ w : Word, decodeF32 (encodeF32 (decodeF32 w)) = decodeF32 w) ∧
  (∀ w : Word, decodeF32 w = .nan ↔ ∃ choice, imageOf choice .nan = w)

/-- R13: roundHalfAway gives the nearest integer, a half to the larger magnitude; u8 is that number on [0, 255]; the rule's two
cases. -/
def Obligations.RoundHalfAwayIsNearest : Prop :=
  (∀ (neg : Bool) (mag : Nat),
    let r := roundHalfAway neg mag
    |2 * signedMag neg mag - 2 ^ 150 * r| ≤ 2 ^ 149 ∧
    (|2 * signedMag neg mag - 2 ^ 150 * r| = 2 ^ 149 → mag < r.natAbs * 2 ^ 149)) ∧
  (∀ (neg : Bool) (mag : Nat), fle fzero (.fin neg mag) = true → fle (.fin neg mag) (f32OfNat 255) = true →
    ((u8 (.fin neg mag)).toNat : ℤ) = roundHalfAway neg mag) ∧
  u8 (decodeF32 0x437D8000#32) = 254#8 ∧ u8 (decodeF32 0x437EFFFF#32) = 255#8

/-- R7, conditions (i) to (iv) on COS. That COS of an infinite argument is a NaN is the model's choice among those (i) allows
(log 6); no register ever shows it. -/
def Obligations.CosineMeetsItsConditions : Prop :=
  (∀ x : F32, isFinite x = true →
    isFinite (cosF32 x) = true ∧ fle (fneg fone) (cosF32 x) = true ∧ fle (cosF32 x) fone = true) ∧
  (∀ x : F32, isFinite x = false → cosF32 x = .nan) ∧
  cosF32 fzero = fone ∧ cosF32 (decodeF32 0x40490FDB#32) = fneg fone ∧
  cosF32 (decodeF32 0x40C90FDB#32) = fone

/-! ### The brightness controller (43_controller.md) -/

/-- R222 to R224: what PIC_SETPOINT answers in every state. -/
def Obligations.SetpointFollowsTheFormula : Prop :=
  ∀ s : State,
    let day := decodeF32 s.pic.dayStart
    let dur := decodeF32 s.pic.duration
    let amp := decodeF32 s.pic.amplitude
    let hour := decodeF32 s.pic.hour
    let e := fadd day dur
    let t := fsub hour day
    let m := fmul (decodeF32 s.cfg.twoPi) t
    let x := fdiv m dur
    let cs := cosF32 x
    let om := fsub fone cs
    let q := fmul amp om
    let cnew := fdiv q ftwo
    exec .picSetpoint s = .next
      (if ¬(isFinite day = true ∧ isFinite dur = true ∧ isFinite amp = true ∧ isFinite hour = true ∧
            fgt dur fzero = true) then
        { s with status.cfgErr := true, rdata := 0#32, busErr := false }
      else if ¬(fle day hour = true ∧ fle hour e = true) then
        { s with pic.consigne := 0#32, rdata := 0#32, busErr := false }
      else if isFinite t = true ∧ isFinite m = true ∧ isFinite x = true ∧ isFinite q = true ∧
            isFinite cnew = true then
        { s with pic.consigne := encodeF32 cnew, rdata := 0#32, busErr := false }
      else { s with status.numErr := true, rdata := 0#32, busErr := false })

/-- R225 (a) to (d): exactly +0.0 outside the window; a zero with A's sign at h = S and wherever the angle is rnd32(2π); exactly
A wherever the angle is rnd32(π), unless 2A overflows. The rule's TWO_PI is the default. Of h = S one case is left out, h = -0.0
with S = +0.0: there fsub gives t = -0.0, not the +0.0 of (b), and R7 fixes no value of COS(-0.0) (log 6). -/
def Obligations.SetpointCurveProperties : Prop :=
  ∀ s : State, s.cfg.twoPi = 0x40C90FDB#32 →
    isFinite (decodeF32 s.pic.dayStart) = true → isFinite (decodeF32 s.pic.duration) = true →
    isFinite (decodeF32 s.pic.amplitude) = true → isFinite (decodeF32 s.pic.hour) = true →
    fgt (decodeF32 s.pic.duration) fzero = true →
    let day := decodeF32 s.pic.dayStart
    let hour := decodeF32 s.pic.hour
    let e := fadd day (decodeF32 s.pic.duration)
    let x := fdiv (fmul (decodeF32 s.cfg.twoPi) (fsub hour day)) (decodeF32 s.pic.duration)
    let gives (w : Word) : Prop :=
      exec .picSetpoint s = .next { s with pic.consigne := w, rdata := 0#32, busErr := false }
    (flt hour day = true ∨ fgt hour e = true → gives 0#32) ∧
    (fle day hour = true → fle hour day = true → ¬(s.pic.hour = 0x80000000#32 ∧ s.pic.dayStart = 0#32) →
      gives (s.pic.amplitude &&& 0x80000000#32)) ∧
    (fle day hour = true → fle hour e = true → x = decodeF32 0x40C90FDB#32 →
      gives (s.pic.amplitude &&& 0x80000000#32)) ∧
    (fle day hour = true → fle hour e = true → x = decodeF32 0x40490FDB#32 →
      isFinite (fmul (decodeF32 s.pic.amplitude) ftwo) = true → gives s.pic.amplitude)

/-- R236: PIC_SETPOINT is a function of (S, D, A, h): repeating it leaves what it left. -/
def Obligations.SetpointIsIdempotent : Prop :=
  ∀ s t : State, exec .picSetpoint s = .next t → exec .picSetpoint t = .next t

/-- R226: PIC_LUX with COUNT < 2 sets PIC_LUX_SHORT and keeps the stale value; else it loads raw and scaled luminosity. The word
loaded decodes to lux(raw) whatever the divisors are, a NaN included, and is its one encoding where it is no NaN (R11, R227);
that a NaN's sign and payload are a free function of the divisors and the raw count is the model's reading (log 7). The corner
cases and the example hold with the default divisors. -/
def Obligations.LuxLoadsOrKeepsTheStaleValue : Prop :=
  encode .picLux = 0x10000000003#41 ∧
  (∀ s : State, (s.pic.luxIn.extractLsb' 16 2).toNat < 2 →
    exec .picLux s = .next { s with status.luxShort := true, rdata := 0#32, busErr := false }) ∧
  (∀ s : State, 2 ≤ (s.pic.luxIn.extractLsb' 16 2).toNat →
    exec .picLux s = .next
      { s with
        pic.luxRaw := s.pic.luxIn.extractLsb' 0 16
        pic.lux := luxImage s.cfg (s.pic.luxIn.extractLsb' 0 16)
        status.luxValid := true
        rdata := 0#32
        busErr := false }) ∧
  (∀ (cfg : Config.Params) (raw : BitVec 16),
    decodeF32 (luxImage cfg raw) = luxScale cfg raw ∧
    (luxScale cfg raw ≠ .nan → luxImage cfg raw = encodeF32 (luxScale cfg raw))) ∧
  (∀ m : Nat,
    luxImage (Config.defaultGains m) 0#16 = 0#32 ∧ luxImage (Config.defaultGains m) 0xFFFF#16 = 0x46D5547F#32 ∧
    luxImage (Config.defaultGains m) 0x05A0#16 = 0x44160000#32)

/-- R227: the formula, the exactness of f32(raw), the default divisors, and with them a result that is always finite and
≥ +0.0. -/
def Obligations.LuxIsFiniteAndNotNegative : Prop :=
  (∀ (cfg : Config.Params) (raw : BitVec 16),
    luxScale cfg raw = fdiv (fdiv (f32OfNat raw.toNat) (decodeF32 cfg.luxDiv1)) (decodeF32 cfg.luxDiv2) ∧
    decodeF32 (encodeF32 (f32OfNat raw.toNat)) = .fin false (raw.toNat * 2 ^ 149)) ∧
  (∀ (m : Nat) (raw : BitVec 16),
    let cfg := Config.defaultGains m
    decodeF32 cfg.luxDiv1 = rnd32 false (12 * 2 ^ 149) 10 ∧ cfg.luxDiv1 = 0x3F99999A#32 ∧
    decodeF32 cfg.luxDiv2 = f32OfNat 2 ∧
    isFinite (luxScale cfg raw) = true ∧ fle fzero (luxScale cfg raw) = true)

/-- R230 to R235: what PIC_REGULATE answers in every state. -/
def Obligations.RegulateFollowsTheLaw : Prop :=
  ∀ s : State,
    let c := decodeF32 s.pic.consigne
    let l := decodeF32 s.pic.lux
    let i := decodeF32 s.pic.integ
    let outMax := decodeF32 s.cfg.outMax
    let p := fmul (decodeF32 s.cfg.kp) c
    let er := fsub c l
    let di := fdiv er (decodeF32 s.cfg.kiDiv)
    let u := fadd (fadd p i) di
    let freeze : Bool := (fgt di fzero && fgt u outMax) || (flt di fzero && flt u fzero)
    let i' := if freeze then i else fadd i di
    let y := fadd (fadd p i') fzero
    let out := if flt y fzero then fzero else if fgt y outMax then outMax else y
    let r := u8 out
    exec .picRegulate s = .next
      (if isFinite p = true ∧ isFinite er = true ∧ isFinite di = true ∧ isFinite u = true ∧ isFinite i' = true ∧
          isFinite y = true then
        { s with
          pic.integ := encodeF32 i'
          pic.output := encodeF32 out
          pic.pwm := if r = s.pic.pwm then s.pic.pwm else r
          pwmWe := r != s.pic.pwm
          status.awFrozen := freeze
          status.pwmChanged := s.status.pwmChanged || r != s.pic.pwm
          rdata := 0#32
          busErr := false }
      else { s with status.numErr := true, pwmWe := false, rdata := 0#32, busErr := false })

/-- R237 and R232: where di > 0 and p + I + di > OUT_MAX, or di < 0 and it is below 0, PIC_INTEG keeps its bits. R236:
once a completed step froze, or had di = 0, repeating it changes no controller register and no flag. -/
def Obligations.AntiWindupFreezesTheIntegrator : Prop :=
  ∀ s t : State, exec .picRegulate s = .next t →
    let r := regTerms s.cfg (decodeF32 s.pic.consigne) (decodeF32 s.pic.lux) (decodeF32 s.pic.integ)
    ((fgt r.di fzero = true ∧ fgt r.u (decodeF32 s.cfg.outMax) = true) ∨
      (flt r.di fzero = true ∧ flt r.u fzero = true) → t.pic.integ = s.pic.integ) ∧
    (t.pic.integ ≠ s.pic.integ → t.pic.integ = encodeF32 (fadd (decodeF32 s.pic.integ) r.di)) ∧
    (∀ u : State, t.status.numErr = false →
      t.status.awFrozen = true ∨ (flt r.di fzero = false ∧ fgt r.di fzero = false) →
      exec .picRegulate t = .next u →
      u.pic = t.pic ∧ u.status = t.status ∧ u.pwmWe = false)

/-- R234, R57 with the default OUT_MAX: a completed regulation leaves an output in [+0.0, 255.0], never -0.0, and PIC_PWM its
rounded value; one that fails leaves both. -/
def Obligations.DriveStaysInRange : Prop :=
  ∀ s t : State, s.cfg.outMax = 0x437F0000#32 → exec .picRegulate s = .next t →
    (t.pic.output = s.pic.output ∧ t.pic.pwm = s.pic.pwm ∧ t.pic.integ = s.pic.integ ∧ t.status.numErr = true) ∨
    (fle fzero (decodeF32 t.pic.output) = true ∧ fle (decodeF32 t.pic.output) (f32OfNat 255) = true ∧
      t.pic.output ≠ 0x80000000#32 ∧ t.pic.pwm = u8 (decodeF32 t.pic.output))

/-- R58, R68, R235 over whole cycles: `pwm_we` is 1 in exactly the cycles that change PIC_PWM and the port `pwm_duty`; only a
PIC_REGULATE changes them, and PIC_PWM_CHANGED is then set. -/
def Obligations.PwmMovesOnlyByRegulate : Prop :=
  ∀ s t : State, s.nextInput.rst = false → step s = .next t →
    (t.pwmWe = true ↔ t.pic.pwm ≠ s.pic.pwm) ∧ (t.pwmWe = true ↔ t.pwmDuty ≠ s.pwmDuty) ∧
    (t.pic.pwm ≠ s.pic.pwm →
      t.status.pwmChanged = true ∧ ∃ tw, s.nextInput.req = some tw ∧ decodeTW tw = .picRegulate)

/-- R233, R224, R226: PIC_INTEG and PIC_OUTPUT change only by PIC_REGULATE, PIC_CONSIGNE only by PIC_SETPOINT, PIC_LUX and
PIC_LUXRAW only by PIC_LUX, in a cycle without reset. -/
def Obligations.ControllerRegistersHaveOneWriter : Prop :=
  ∀ s t : State, s.nextInput.rst = false → step s = .next t →
    let ran (i : Instr) : Prop := ∃ tw, s.nextInput.req = some tw ∧ decodeTW tw = i
    (t.pic.integ ≠ s.pic.integ → ran .picRegulate) ∧ (t.pic.output ≠ s.pic.output → ran .picRegulate) ∧
    (t.pic.consigne ≠ s.pic.consigne → ran .picSetpoint) ∧
    (t.pic.lux ≠ s.pic.lux → ran .picLux) ∧ (t.pic.luxRaw ≠ s.pic.luxRaw → ran .picLux)

/-- R236: PIC_REGULATE is a function of (c, L, I, PIC_PWM): two states that agree on them, and on the parameters, get the same
integrator, drive value, strobe and outcome. -/
def Obligations.RegulateIsDeterminedByItsOperands : Prop :=
  ∀ s s' t t' : State, s.cfg = s'.cfg → s.pic.consigne = s'.pic.consigne → s.pic.lux = s'.pic.lux →
    s.pic.integ = s'.pic.integ → s.pic.pwm = s'.pic.pwm →
    exec .picRegulate s = .next t → exec .picRegulate s' = .next t' →
    t.pic.integ = t'.pic.integ ∧ t.pic.pwm = t'.pic.pwm ∧ t.pwmWe = t'.pwmWe ∧
    ((t.pic.output = t'.pic.output ∧ t.status.awFrozen = t'.status.awFrozen) ∨
      (t.pic = s.pic ∧ t'.pic = s'.pic ∧ t.status.numErr = true ∧ t'.status.numErr = true))

/-- Every step of a default build keeps the controller's invariant: no NaN and no infinity ever reaches a controller register,
and the drive stays in range (R224, R227, R231, R234, R235). The default gains are the spec's (log 5). -/
def Obligations.StepKeepsController : Prop :=
  ∀ s t : State, s.cfg = Config.defaultGains s.cfg.clkPerUs → s.controllerOk → step s = .next t → t.controllerOk

/-! ### The output ports (10_state.md R68) and the binary32 operations (00_scope.md R12) -/

/-- R68: in every state `dq_oe` is 1 iff SWD_STATE = REQUESTING, `pwm_duty` is PIC_PWM and `irq` is SWD_DONE AND DONE_IE; and a
cycle with no transaction and no reset ends with `rdata`, `bus_err` and `pwm_we` 0. -/
def Obligations.OutputPortsFollowTheState : Prop :=
  (∀ s : State,
    (s.dqOe = true ↔ s.status.fsm = .requesting) ∧ s.pwmDuty = s.pic.pwm ∧
    (s.irq = true ↔ s.status.done = true ∧ s.doneIe = true)) ∧
  (∀ s t : State, s.nextInput.rst = false → s.nextInput.req = none → step s = .next t →
    t.rdata = 0#32 ∧ t.busErr = false ∧ t.pwmWe = false)

/-- R12: each operation on finite operands is the exact result rounded once, with the sign IEEE 754 gives an exact zero; a
division by zero; infinite and NaN operands; and the comparisons, false where an operand is a NaN, else the order of the values,
in which the two zeros are equal. -/
def Obligations.OperationsAreCorrectlyRounded : Prop :=
  (∀ x y : F32, isFinite x = true → isFinite y = true →
    let neg := f32IsNeg x != f32IsNeg y
    CorrectlyRounded (f32Val x + f32Val y) (f32IsNeg x && f32IsNeg y) (fadd x y) ∧
    CorrectlyRounded (f32Val x - f32Val y) (f32IsNeg x && !f32IsNeg y) (fsub x y) ∧
    CorrectlyRounded (f32Val x * f32Val y) neg (fmul x y) ∧
    (f32Val y ≠ 0 → CorrectlyRounded (f32Val x / f32Val y) neg (fdiv x y)) ∧
    (f32Val y = 0 → fdiv x y = if f32Val x = 0 then .nan else .inf neg)) ∧
  (∀ (n : Bool) (x : F32), isFinite x = true →
    let neg := n != f32IsNeg x
    let prod : F32 := if f32Val x = 0 then .nan else .inf neg
    fadd (.inf n) x = .inf n ∧ fadd x (.inf n) = .inf n ∧ fsub (.inf n) x = .inf n ∧ fsub x (.inf n) = .inf (!n) ∧
    fmul (.inf n) x = prod ∧ fmul x (.inf n) = prod ∧
    fdiv (.inf n) x = .inf neg ∧ fdiv x (.inf n) = .fin neg 0) ∧
  (∀ n m : Bool,
    fadd (.inf n) (.inf m) = (if n = m then .inf n else .nan) ∧
    fsub (.inf n) (.inf m) = (if n = m then .nan else .inf n) ∧
    fmul (.inf n) (.inf m) = .inf (n != m) ∧ fdiv (.inf n) (.inf m) = .nan) ∧
  (∀ x y : F32, x = .nan ∨ y = .nan →
    fadd x y = .nan ∧ fsub x y = .nan ∧ fmul x y = .nan ∧ fdiv x y = .nan ∧
    flt x y = false ∧ fle x y = false ∧ fgt x y = false ∧ fge x y = false) ∧
  (∀ x y : F32, x ≠ .nan → y ≠ .nan →
    (flt x y = true ↔ f32Ext x < f32Ext y) ∧ (fle x y = true ↔ f32Ext x ≤ f32Ext y) ∧
    (fgt x y = true ↔ f32Ext y < f32Ext x) ∧ (fge x y = true ↔ f32Ext y ≤ f32Ext x)) ∧
  (∀ x : F32, isFinite x = true ↔ x ≠ .nan ∧ ∀ n, x ≠ .inf n)
end

