-- ==== Sys2Proof/Laws/Fields.lean ====
section
/-! SUPPORT. The fields of a transaction word and its packing are inverse to each other; the offsets and the registers; the
bytes of a number. -/

namespace Sys2Proof

/-- A packed word as a number (30_encoding.md R101). -/
theorem packTW_toNat (we : Bool) (addr : Byte) (data : Word) :
    (packTW we addr data).toNat = we.toNat * 2 ^ 40 + addr.toNat * 2 ^ 32 + data.toNat := by
  have h : (packTW we addr data).toNat = (BitVec.ofBool we ++ addr ++ data : BitVec (1 + 8 + 32)).toNat := rfl
  rw [h, BitVec.toNat_append, BitVec.toNat_append, BitVec.toNat_ofBool, ← Nat.shiftLeft_add_eq_or_of_lt data.isLt,
    ← Nat.shiftLeft_add_eq_or_of_lt addr.isLt]
  simp only [Nat.shiftLeft_eq]
  ring

@[simp] theorem weOf_packTW (we : Bool) (addr : Byte) (data : Word) : weOf (packTW we addr data) = we := by
  have := data.isLt
  have := addr.isLt
  rw [weOf, BitVec.getLsbD, packTW_toNat, Nat.testBit_eq_decide_div_mod_eq]
  cases we <;> simp <;> omega

@[simp] theorem addrOf_packTW (we : Bool) (addr : Byte) (data : Word) : addrOf (packTW we addr data) = addr := by
  apply BitVec.eq_of_toNat_eq
  have := data.isLt
  have := addr.isLt
  rw [addrOf, BitVec.extractLsb'_toNat, packTW_toNat, Nat.shiftRight_eq_div_pow]
  cases we <;> simp <;> omega

@[simp] theorem dataOf_packTW (we : Bool) (addr : Byte) (data : Word) : dataOf (packTW we addr data) = data := by
  apply BitVec.eq_of_toNat_eq
  have := data.isLt
  have := addr.isLt
  rw [dataOf, BitVec.extractLsb'_toNat, packTW_toNat]
  cases we <;> simp <;> omega

/-- Every word is the packing of its own fields. -/
theorem packTW_fields (tw : TW) : packTW (weOf tw) (addrOf tw) (dataOf tw) = tw := by
  apply BitVec.eq_of_toNat_eq
  rw [packTW_toNat, addrOf, dataOf, weOf, BitVec.extractLsb'_toNat, BitVec.extractLsb'_toNat, BitVec.getLsbD,
    Nat.testBit_eq_decide_div_mod_eq, Nat.shiftRight_eq_div_pow]
  have := tw.isLt
  have e : (decide (tw.toNat / 2 ^ 40 % 2 = 1)).toNat = tw.toNat / 2 ^ 40 := by
    have : tw.toNat / 2 ^ 40 = 0 ∨ tw.toNat / 2 ^ 40 = 1 := by omega
    rcases this with h | h <;> rw [h] <;> rfl
  rw [e]
  omega

/-- Decoding a packed word reads its fields. -/
@[simp] theorem decodeTW_packTW (we : Bool) (addr : Byte) (data : Word) :
    decodeTW (packTW we addr data) = decodeFields we addr data := by
  simp [decodeTW]

/-- The offsets without a register are the misaligned and the unmapped ones (20_memory.md R84). -/
theorem ofOffset_eq_none : ∀ addr : Byte, Reg.ofOffset addr = none ↔ (addr &&& 3#8 ≠ 0#8 ∨ 0x50 < addr.toNat) := by
  decide

/-- The register found at an offset has that offset. -/
theorem offset_of_ofOffset (addr : Byte) (r : Reg) (h : Reg.ofOffset addr = some r) : r.offset = addr := by
  revert addr
  cases r <;> decide

@[simp] theorem ofOffset_offset (r : Reg) : Reg.ofOffset r.offset = some r := by cases r <;> rfl

@[simp] theorem length_leBytes (n w : Nat) : (leBytes n w).length = n := by
  induction n generalizing w with
  | zero => rfl
  | succ n ih => simp [leBytes, ih]

/-- The bytes of a number that fits in them give it back. -/
theorem leNat_leBytes (n w : Nat) (h : w < 256 ^ n) : leNat (leBytes n w) = w := by
  induction n generalizing w with
  | zero => simp at h; simp [leBytes, leNat, h]
  | succ n ih =>
    have : w / 256 < 256 ^ n := by rw [pow_succ] at h; omega
    simp [leBytes, leNat, ih _ this]
    omega

end Sys2Proof
end

