-- ==== Sys2Proof/Laws/State.lean ====
section
/-! SUPPORT. One lemma for each field a named update leaves or sets, so that no proof unfolds a record update. -/

namespace Sys2Proof.Machine

@[simp] theorem answer_cfg (s : State) (v : Word) : (s.answer v).cfg = s.cfg := rfl
@[simp] theorem answer_status (s : State) (v : Word) : (s.answer v).status = s.status := rfl
@[simp] theorem answer_doneIe (s : State) (v : Word) : (s.answer v).doneIe = s.doneIe := rfl
@[simp] theorem answer_swd (s : State) (v : Word) : (s.answer v).swd = s.swd := rfl
@[simp] theorem answer_pic (s : State) (v : Word) : (s.answer v).pic = s.pic := rfl
@[simp] theorem answer_ts (s : State) (v : Word) : (s.answer v).ts = s.ts := rfl
@[simp] theorem answer_presc (s : State) (v : Word) : (s.answer v).presc = s.presc := rfl
@[simp] theorem answer_rdata (s : State) (v : Word) : (s.answer v).rdata = v := rfl
@[simp] theorem answer_busErr (s : State) (v : Word) : (s.answer v).busErr = false := rfl
@[simp] theorem answer_pwmWe (s : State) (v : Word) : (s.answer v).pwmWe = s.pwmWe := rfl
@[simp] theorem answer_doneSetB (s : State) (v : Word) : (s.answer v).doneSetB = s.doneSetB := rfl
@[simp] theorem answer_pending (s : State) (v : Word) : (s.answer v).pending = s.pending := rfl
@[simp] theorem answer_cycle (s : State) (v : Word) : (s.answer v).cycle = s.cycle := rfl

@[simp] theorem acknowledge_cfg (s : State) (d : Word) : (s.acknowledge d).cfg = s.cfg := rfl
@[simp] theorem acknowledge_status (s : State) (d : Word) : (s.acknowledge d).status = s.status.ack d s.doneSetB := rfl
@[simp] theorem acknowledge_doneIe (s : State) (d : Word) : (s.acknowledge d).doneIe = s.doneIe := rfl
@[simp] theorem acknowledge_swd (s : State) (d : Word) : (s.acknowledge d).swd = s.swd := rfl
@[simp] theorem acknowledge_pic (s : State) (d : Word) : (s.acknowledge d).pic = s.pic := rfl
@[simp] theorem acknowledge_ts (s : State) (d : Word) : (s.acknowledge d).ts = s.ts := rfl
@[simp] theorem acknowledge_presc (s : State) (d : Word) : (s.acknowledge d).presc = s.presc := rfl
@[simp] theorem acknowledge_rdata (s : State) (d : Word) : (s.acknowledge d).rdata = s.rdata := rfl
@[simp] theorem acknowledge_busErr (s : State) (d : Word) : (s.acknowledge d).busErr = s.busErr := rfl
@[simp] theorem acknowledge_pwmWe (s : State) (d : Word) : (s.acknowledge d).pwmWe = s.pwmWe := rfl
@[simp] theorem acknowledge_doneSetB (s : State) (d : Word) : (s.acknowledge d).doneSetB = s.doneSetB := rfl
@[simp] theorem acknowledge_pending (s : State) (d : Word) : (s.acknowledge d).pending = s.pending := rfl
@[simp] theorem acknowledge_cycle (s : State) (d : Word) : (s.acknowledge d).cycle = s.cycle := rfl

@[simp] theorem beginCycle_cfg (s : State) : (s.beginCycle).cfg = s.cfg := rfl
@[simp] theorem beginCycle_status (s : State) : (s.beginCycle).status = s.status := rfl
@[simp] theorem beginCycle_doneIe (s : State) : (s.beginCycle).doneIe = s.doneIe := rfl
@[simp] theorem beginCycle_swd (s : State) : (s.beginCycle).swd = s.swd := rfl
@[simp] theorem beginCycle_pic (s : State) : (s.beginCycle).pic = s.pic := rfl
@[simp] theorem beginCycle_ts (s : State) : (s.beginCycle).ts = s.ts := rfl
@[simp] theorem beginCycle_presc (s : State) : (s.beginCycle).presc = s.presc := rfl
@[simp] theorem beginCycle_rdata (s : State) : (s.beginCycle).rdata = 0#32 := rfl
@[simp] theorem beginCycle_busErr (s : State) : (s.beginCycle).busErr = false := rfl
@[simp] theorem beginCycle_pwmWe (s : State) : (s.beginCycle).pwmWe = false := rfl
@[simp] theorem beginCycle_doneSetB (s : State) : (s.beginCycle).doneSetB = false := rfl
@[simp] theorem beginCycle_pending (s : State) : (s.beginCycle).pending = s.pending.tail := rfl
@[simp] theorem beginCycle_cycle (s : State) : (s.beginCycle).cycle = s.cycle + 1 := rfl

@[simp] theorem timerPhase_cfg (s : State) : (timerPhase s).cfg = s.cfg := rfl
@[simp] theorem timerPhase_status (s : State) : (timerPhase s).status = s.status := rfl
@[simp] theorem timerPhase_doneIe (s : State) : (timerPhase s).doneIe = s.doneIe := rfl
@[simp] theorem timerPhase_swd (s : State) : (timerPhase s).swd = s.swd := rfl
@[simp] theorem timerPhase_pic (s : State) : (timerPhase s).pic = s.pic := rfl
@[simp] theorem timerPhase_ts (s : State) : (timerPhase s).ts = if s.usTick then s.ts + 1#32 else s.ts := rfl
@[simp] theorem timerPhase_presc (s : State) : (timerPhase s).presc = if s.usTick then 0 else s.presc + 1 := rfl
@[simp] theorem timerPhase_rdata (s : State) : (timerPhase s).rdata = s.rdata := rfl
@[simp] theorem timerPhase_busErr (s : State) : (timerPhase s).busErr = s.busErr := rfl
@[simp] theorem timerPhase_pwmWe (s : State) : (timerPhase s).pwmWe = s.pwmWe := rfl
@[simp] theorem timerPhase_doneSetB (s : State) : (timerPhase s).doneSetB = s.doneSetB := rfl
@[simp] theorem timerPhase_pending (s : State) : (timerPhase s).pending = s.pending := rfl
@[simp] theorem timerPhase_cycle (s : State) : (timerPhase s).cycle = s.cycle := rfl

@[simp] theorem resetCycle_cfg (s : State) : (s.resetCycle).cfg = s.cfg := rfl
@[simp] theorem resetCycle_status (s : State) : (s.resetCycle).status = .reset := rfl
@[simp] theorem resetCycle_doneIe (s : State) : (s.resetCycle).doneIe = false := rfl
@[simp] theorem resetCycle_swd (s : State) : (s.resetCycle).swd = .reset := rfl
@[simp] theorem resetCycle_pic (s : State) : (s.resetCycle).pic = .reset := rfl
@[simp] theorem resetCycle_ts (s : State) : (s.resetCycle).ts = 0 := rfl
@[simp] theorem resetCycle_presc (s : State) : (s.resetCycle).presc = 0 := rfl
@[simp] theorem resetCycle_rdata (s : State) : (s.resetCycle).rdata = 0 := rfl
@[simp] theorem resetCycle_busErr (s : State) : (s.resetCycle).busErr = false := rfl
@[simp] theorem resetCycle_pwmWe (s : State) : (s.resetCycle).pwmWe = false := rfl
@[simp] theorem resetCycle_doneSetB (s : State) : (s.resetCycle).doneSetB = false := rfl
@[simp] theorem resetCycle_pending (s : State) : (s.resetCycle).pending = s.pending.tail := rfl
@[simp] theorem resetCycle_cycle (s : State) : (s.resetCycle).cycle = s.cycle + 1 := rfl

@[simp] theorem startAcquisition_cfg (s : State) : (startAcquisition s).cfg = s.cfg := rfl
@[simp] theorem startAcquisition_status (s : State) : (startAcquisition s).status = { s.status with fsm := .requesting } := rfl
@[simp] theorem startAcquisition_doneIe (s : State) : (startAcquisition s).doneIe = s.doneIe := rfl
@[simp] theorem startAcquisition_swd (s : State) : (startAcquisition s).swd = { s.swd with pcnt := 0, tstartL := s.swd.tstart, timeoutL := s.swd.timeout } := rfl
@[simp] theorem startAcquisition_pic (s : State) : (startAcquisition s).pic = s.pic := rfl
@[simp] theorem startAcquisition_ts (s : State) : (startAcquisition s).ts = s.ts := rfl
@[simp] theorem startAcquisition_presc (s : State) : (startAcquisition s).presc = s.presc := rfl
@[simp] theorem startAcquisition_rdata (s : State) : (startAcquisition s).rdata = s.rdata := rfl
@[simp] theorem startAcquisition_busErr (s : State) : (startAcquisition s).busErr = s.busErr := rfl
@[simp] theorem startAcquisition_pwmWe (s : State) : (startAcquisition s).pwmWe = s.pwmWe := rfl
@[simp] theorem startAcquisition_doneSetB (s : State) : (startAcquisition s).doneSetB = s.doneSetB := rfl
@[simp] theorem startAcquisition_pending (s : State) : (startAcquisition s).pending = s.pending := rfl
@[simp] theorem startAcquisition_cycle (s : State) : (startAcquisition s).cycle = s.cycle := rfl

@[simp] theorem arm_cfg (s : State) : (arm s).cfg = s.cfg := rfl
@[simp] theorem arm_status (s : State) : (arm s).status = { s.status with fsm := .listening } := rfl
@[simp] theorem arm_doneIe (s : State) : (arm s).doneIe = s.doneIe := rfl
@[simp] theorem arm_swd (s : State) : (arm s).swd = { s.swd with edgeCount := 0, accH := 0, accT := 0, accC := 0, tPrev := 0, dPrev := 0, pcnt := 0 } := rfl
@[simp] theorem arm_pic (s : State) : (arm s).pic = s.pic := rfl
@[simp] theorem arm_ts (s : State) : (arm s).ts = s.ts := rfl
@[simp] theorem arm_presc (s : State) : (arm s).presc = s.presc := rfl
@[simp] theorem arm_rdata (s : State) : (arm s).rdata = s.rdata := rfl
@[simp] theorem arm_busErr (s : State) : (arm s).busErr = s.busErr := rfl
@[simp] theorem arm_pwmWe (s : State) : (arm s).pwmWe = s.pwmWe := rfl
@[simp] theorem arm_doneSetB (s : State) : (arm s).doneSetB = s.doneSetB := rfl
@[simp] theorem arm_pending (s : State) : (arm s).pending = s.pending := rfl
@[simp] theorem arm_cycle (s : State) : (arm s).cycle = s.cycle := rfl

@[simp] theorem regulated_cfg (s : State) (r : RegResult) : (s.regulated r).cfg = s.cfg := rfl
@[simp] theorem regulated_status (s : State) (r : RegResult) : (s.regulated r).status = { s.status with awFrozen := r.frozen, pwmChanged := s.status.pwmChanged || r.pwm != s.pic.pwm } := rfl
@[simp] theorem regulated_doneIe (s : State) (r : RegResult) : (s.regulated r).doneIe = s.doneIe := rfl
@[simp] theorem regulated_swd (s : State) (r : RegResult) : (s.regulated r).swd = s.swd := rfl
@[simp] theorem regulated_pic (s : State) (r : RegResult) : (s.regulated r).pic = { s.pic with integ := r.integ, output := r.output, pwm := r.pwm } := rfl
@[simp] theorem regulated_ts (s : State) (r : RegResult) : (s.regulated r).ts = s.ts := rfl
@[simp] theorem regulated_presc (s : State) (r : RegResult) : (s.regulated r).presc = s.presc := rfl
@[simp] theorem regulated_rdata (s : State) (r : RegResult) : (s.regulated r).rdata = s.rdata := rfl
@[simp] theorem regulated_busErr (s : State) (r : RegResult) : (s.regulated r).busErr = s.busErr := rfl
@[simp] theorem regulated_pwmWe (s : State) (r : RegResult) : (s.regulated r).pwmWe = (r.pwm != s.pic.pwm) := rfl
@[simp] theorem regulated_doneSetB (s : State) (r : RegResult) : (s.regulated r).doneSetB = s.doneSetB := rfl
@[simp] theorem regulated_pending (s : State) (r : RegResult) : (s.regulated r).pending = s.pending := rfl
@[simp] theorem regulated_cycle (s : State) (r : RegResult) : (s.regulated r).cycle = s.cycle := rfl

/-! The record of an error touches STATUS alone, but for a bus error's response. -/

@[simp] theorem raise_cfg (s : State) (e : BlockError) : (s.raise e).cfg = s.cfg := by cases e <;> rfl
@[simp] theorem raise_doneIe (s : State) (e : BlockError) : (s.raise e).doneIe = s.doneIe := by cases e <;> rfl
@[simp] theorem raise_swd (s : State) (e : BlockError) : (s.raise e).swd = s.swd := by cases e <;> rfl
@[simp] theorem raise_pic (s : State) (e : BlockError) : (s.raise e).pic = s.pic := by cases e <;> rfl
@[simp] theorem raise_ts (s : State) (e : BlockError) : (s.raise e).ts = s.ts := by cases e <;> rfl
@[simp] theorem raise_presc (s : State) (e : BlockError) : (s.raise e).presc = s.presc := by cases e <;> rfl
@[simp] theorem raise_pwmWe (s : State) (e : BlockError) : (s.raise e).pwmWe = s.pwmWe := by cases e <;> rfl
@[simp] theorem raise_doneSetB (s : State) (e : BlockError) : (s.raise e).doneSetB = s.doneSetB := by cases e <;> rfl
@[simp] theorem raise_pending (s : State) (e : BlockError) : (s.raise e).pending = s.pending := by cases e <;> rfl
@[simp] theorem raise_cycle (s : State) (e : BlockError) : (s.raise e).cycle = s.cycle := by cases e <;> rfl

@[simp] theorem raise_busError_status (s : State) : (s.raise .busError).status = { s.status with errBus := true } := rfl
@[simp] theorem raise_illegalCommand_status (s : State) : (s.raise .illegalCommand).status = { s.status with errIllegalCmd := true } := rfl
@[simp] theorem raise_startWhileBusy_status (s : State) : (s.raise .startWhileBusy).status = { s.status with errStartBusy := true } := rfl
@[simp] theorem raise_luxShortfall_status (s : State) : (s.raise .luxShortfall).status = { s.status with luxShort := true } := rfl
@[simp] theorem raise_configError_status (s : State) : (s.raise .configError).status = { s.status with cfgErr := true } := rfl
@[simp] theorem raise_numericError_status (s : State) : (s.raise .numericError).status = { s.status with numErr := true } := rfl
@[simp] theorem raise_acquisitionTimeout_status (s : State) : (s.raise .acquisitionTimeout).status = { s.status with result := .timeout, done := true } := rfl
@[simp] theorem raise_checksumMismatch_status (s : State) : (s.raise .checksumMismatch).status = { s.status with result := .checksumMismatch, done := true } := rfl

/-! The acknowledgement leaves every RO field of STATUS (10_state.md R34). -/

@[simp] theorem ack_result (st : Status) (d : Word) (b : Bool) : (st.ack d b).result = st.result := rfl
@[simp] theorem ack_fsm (st : Status) (d : Word) (b : Bool) : (st.ack d b).fsm = st.fsm := rfl
@[simp] theorem ack_dataValid (st : Status) (d : Word) (b : Bool) : (st.ack d b).dataValid = st.dataValid := rfl
@[simp] theorem ack_edge0Level (st : Status) (d : Word) (b : Bool) : (st.ack d b).edge0Level = st.edge0Level := rfl
@[simp] theorem ack_luxValid (st : Status) (d : Word) (b : Bool) : (st.ack d b).luxValid = st.luxValid := rfl
@[simp] theorem ack_awFrozen (st : Status) (d : Word) (b : Bool) : (st.ack d b).awFrozen = st.awFrozen := rfl
@[simp] theorem ack_done (st : Status) (d : Word) (b : Bool) : (st.ack d b).done = w1c st.done (d.getLsbD 5) b := rfl
@[simp] theorem ack_errIllegalCmd (st : Status) (d : Word) (b : Bool) : (st.ack d b).errIllegalCmd = w1c st.errIllegalCmd (d.getLsbD 8) false := rfl
@[simp] theorem ack_errStartBusy (st : Status) (d : Word) (b : Bool) : (st.ack d b).errStartBusy = w1c st.errStartBusy (d.getLsbD 9) false := rfl
@[simp] theorem ack_luxShort (st : Status) (d : Word) (b : Bool) : (st.ack d b).luxShort = w1c st.luxShort (d.getLsbD 10) false := rfl
@[simp] theorem ack_cfgErr (st : Status) (d : Word) (b : Bool) : (st.ack d b).cfgErr = w1c st.cfgErr (d.getLsbD 11) false := rfl
@[simp] theorem ack_numErr (st : Status) (d : Word) (b : Bool) : (st.ack d b).numErr = w1c st.numErr (d.getLsbD 12) false := rfl
@[simp] theorem ack_pwmChanged (st : Status) (d : Word) (b : Bool) : (st.ack d b).pwmChanged = w1c st.pwmChanged (d.getLsbD 13) false := rfl
@[simp] theorem ack_errBus (st : Status) (d : Word) (b : Bool) : (st.ack d b).errBus = w1c st.errBus (d.getLsbD 15) false := rfl

@[simp] theorem w1c_unwritten (old b : Bool) : w1c old false b = old := by cases old <;> rfl
@[simp] theorem w1c_written (old : Bool) : w1c old true false = false := by cases old <;> rfl
@[simp] theorem w1c_held (old w : Bool) : w1c old w true = old := by cases old <;> cases w <;> rfl
@[simp] theorem w1c_unset (w b : Bool) : w1c false w b = false := rfl

end Sys2Proof.Machine
end

