-- ==== Sys2Proof/Laws/Ops.lean ====
section
/-! SUPPORT. For each shared operation, once, everything it can do: the phases of a cycle as a case analysis, and the
frames of phases (a) and (b). -/

namespace Sys2Proof.Machine

/-- A bus error, whatever the transaction, is the record of BusError. -/
theorem busErrorResponse_eq (we : Bool) (addr : Byte) (data : Word) (s : State) :
    busErrorResponse we addr data s = .next (s.raise .busError) := rfl

/-- A register read is its answer. -/
theorem readRegister_eq (r : Reg) (s : State) : readRegister r s = .next (s.answer (regImage s r)) := rfl

/-- An ignored write is the answer alone. -/
theorem writeIgnored_eq (d : Word) (s : State) : writeIgnored d s = .next (s.answer 0#32) := rfl

/-- The answer of a transaction changes no register. -/
@[simp] theorem regImage_answer (s : State) (v : Word) (r : Reg) : regImage (s.answer v) r = regImage s r := by
  cases r <;> rfl

/-- The edge phase: one EDGE operation for a captured edge, else the sample alone. -/
theorem edgePhase_cases (dq : Bool) (st0 : SwdState) (s : State) :
    (dq ≠ s.swd.linePrev ∧ st0 = .listening ∧ s.swd.edgeCount.toNat < 84 ∧
      edgePhase dq st0 s =
        { s with
          swd := { s.swd.captureEdge s.ts with linePrev := dq }
          status.edge0Level := if s.swd.edgeCount = 0 then dq else s.status.edge0Level }) ∨
    (¬(dq ≠ s.swd.linePrev ∧ st0 = .listening ∧ s.swd.edgeCount.toNat < 84) ∧
      edgePhase dq st0 s = { s with swd.linePrev := dq }) := by
  by_cases h : edgeCaptured dq st0 s.swd = true
  · left
    have h' := h
    simp only [edgeCaptured, Bool.and_eq_true, bne_iff_ne, beq_iff_eq, decide_eq_true_eq] at h'
    exact ⟨h'.1.1, h'.1.2, h'.2, by simp [edgePhase, h]⟩
  · right
    refine ⟨fun h' => h ?_, by simp [edgePhase, h]⟩
    simp only [edgeCaptured, Bool.and_eq_true, bne_iff_ne, beq_iff_eq, decide_eq_true_eq]
    exact ⟨⟨h'.1, h'.2.1⟩, h'.2.2⟩

/-- The REQUESTING step: no tick and no change, a tick that counts, or the tick that arms. -/
theorem requestingStep_cases (tick : Bool) (s : State) :
    (tick = false ∧ requestingStep tick s = s) ∨
    (tick = true ∧ (pcntUp s.swd.pcnt).toNat ≤ s.swd.tstartL.toNat ∧
      requestingStep tick s = { s with swd.pcnt := pcntUp s.swd.pcnt }) ∨
    (tick = true ∧ s.swd.tstartL.toNat < (pcntUp s.swd.pcnt).toNat ∧ requestingStep tick s = arm s) := by
  cases tick
  · exact .inl ⟨rfl, by simp [requestingStep, pcntNext]⟩
  · right
    by_cases h : s.swd.tstartL.toNat < (pcntUp s.swd.pcnt).toNat
    · exact .inr ⟨rfl, h, by simp [requestingStep, pcntNext, h, arm]⟩
    · exact .inl ⟨rfl, by omega, by simp [requestingStep, pcntNext, h]⟩

/-- The LISTENING step: S.PCNT counts the tick, and the state leaves for DECODING where an exit condition holds. -/
theorem listeningStep_eq (tick : Bool) (s : State) :
    listeningStep tick s =
      { s with
        swd.pcnt := pcntNext tick s.swd.pcnt
        status.fsm :=
          if s.swd.edgeCount.toNat = 84 ∨ s.swd.timeoutL.toNat ≤ (pcntNext tick s.swd.pcnt).toNat then .decoding
          else s.status.fsm } := by
  by_cases h : s.swd.edgeCount.toNat = 84 <;>
    by_cases h' : s.swd.timeoutL.toNat ≤ (pcntNext tick s.swd.pcnt).toNat <;>
      simp [listeningStep, listeningEnds, h, h']

/-- The outcome of a commit: VALID with the frame words, CHECKSUM_MISMATCH, or TIMEOUT. -/
theorem commitOutcome_cases (s : State) :
    (s.swd.edgeCount.toNat = 84 ∧ frameOk s.swd.accH s.swd.accT s.swd.accC = true ∧
      commitOutcome s = commitValid s) ∨
    (s.swd.edgeCount.toNat = 84 ∧ frameOk s.swd.accH s.swd.accT s.swd.accC = false ∧
      commitOutcome s = s.raise .checksumMismatch) ∨
    (s.swd.edgeCount.toNat ≠ 84 ∧ commitOutcome s = s.raise .acquisitionTimeout) := by
  by_cases h : s.swd.edgeCount.toNat = 84
  · cases h' : frameOk s.swd.accH s.swd.accT s.swd.accC
    · exact .inr (.inl ⟨h, rfl, by simp [commitOutcome, h, h']⟩)
    · exact .inl ⟨h, rfl, by simp [commitOutcome, h, h']⟩
  · exact .inr (.inr ⟨h, by simp [commitOutcome, h]⟩)

/-- What an EDGE leaves of the front end: everything but the count, the two interval registers and the accumulators. -/
theorem captureEdge_frame (w : Swd) (t : Word) :
    (w.captureEdge t).humid = w.humid ∧ (w.captureEdge t).temp = w.temp ∧ (w.captureEdge t).csum = w.csum ∧
    (w.captureEdge t).tstart = w.tstart ∧ (w.captureEdge t).timeout = w.timeout ∧
    (w.captureEdge t).linePrev = w.linePrev ∧ (w.captureEdge t).pcnt = w.pcnt ∧
    (w.captureEdge t).tstartL = w.tstartL ∧ (w.captureEdge t).timeoutL = w.timeoutL ∧
    (w.captureEdge t).edgeCount = w.edgeCount + 1 ∧ (w.captureEdge t).tPrev = t := by
  unfold Swd.captureEdge
  split <;> simp [Swd.shiftBit]

/-- What the edge phase leaves alone outside the front end. -/
theorem edgePhase_frame (dq : Bool) (st0 : SwdState) (s : State) :
    (edgePhase dq st0 s).cfg = s.cfg ∧ (edgePhase dq st0 s).doneIe = s.doneIe ∧ (edgePhase dq st0 s).pic = s.pic ∧
    (edgePhase dq st0 s).ts = s.ts ∧ (edgePhase dq st0 s).presc = s.presc ∧ (edgePhase dq st0 s).rdata = s.rdata ∧
    (edgePhase dq st0 s).busErr = s.busErr ∧ (edgePhase dq st0 s).pwmWe = s.pwmWe ∧
    (edgePhase dq st0 s).doneSetB = s.doneSetB ∧ (edgePhase dq st0 s).pending = s.pending ∧
    (edgePhase dq st0 s).cycle = s.cycle := by
  rcases edgePhase_cases dq st0 s with ⟨-, -, -, h⟩ | ⟨-, h⟩ <;> rw [h] <;>
    exact ⟨rfl, rfl, rfl, rfl, rfl, rfl, rfl, rfl, rfl, rfl, rfl⟩

/-- What the FSM phase leaves alone: the time base, the controller's registers, the ports and the model's fields but
`doneSetB`. -/
theorem fsmPhase_frame (tick : Bool) (st0 : SwdState) (s : State) :
    (fsmPhase tick st0 s).cfg = s.cfg ∧ (fsmPhase tick st0 s).doneIe = s.doneIe ∧ (fsmPhase tick st0 s).pic = s.pic ∧
    (fsmPhase tick st0 s).ts = s.ts ∧ (fsmPhase tick st0 s).presc = s.presc ∧ (fsmPhase tick st0 s).rdata = s.rdata ∧
    (fsmPhase tick st0 s).busErr = s.busErr ∧ (fsmPhase tick st0 s).pwmWe = s.pwmWe ∧
    (fsmPhase tick st0 s).pending = s.pending ∧ (fsmPhase tick st0 s).cycle = s.cycle := by
  cases st0
  · exact ⟨rfl, rfl, rfl, rfl, rfl, rfl, rfl, rfl, rfl, rfl⟩
  · unfold fsmPhase
    rcases requestingStep_cases tick s with ⟨-, h⟩ | ⟨-, -, h⟩ | ⟨-, -, h⟩ <;> rw [h] <;>
      exact ⟨rfl, rfl, rfl, rfl, rfl, rfl, rfl, rfl, rfl, rfl⟩
  · unfold fsmPhase
    rw [listeningStep_eq]
    exact ⟨rfl, rfl, rfl, rfl, rfl, rfl, rfl, rfl, rfl, rfl⟩
  · unfold fsmPhase commit
    rcases commitOutcome_cases s with ⟨-, -, h⟩ | ⟨-, -, h⟩ | ⟨-, h⟩ <;> rw [h] <;>
      exact ⟨rfl, rfl, rfl, rfl, rfl, rfl, rfl, rfl, rfl, rfl⟩

/-- Phases (a) and (b) leave the parameters, the interrupt enable and the controller's registers. -/
theorem internalPhases_frame (s : State) (dq : Bool) :
    (s.internalPhases dq).cfg = s.cfg ∧ (s.internalPhases dq).doneIe = s.doneIe ∧ (s.internalPhases dq).pic = s.pic := by
  have h := fsmPhase_frame s.usTick s.status.fsm (edgePhase dq s.status.fsm (timerPhase s.beginCycle))
  have h' := edgePhase_frame dq s.status.fsm (timerPhase s.beginCycle)
  exact ⟨h.1.trans (h'.1.trans rfl), h.2.1.trans (h'.2.1.trans rfl), h.2.2.1.trans (h'.2.2.1.trans rfl)⟩

/-- Phases (a) and (b) leave the response ports of a cycle without a transaction, all 0, and take one input record. -/
theorem internalPhases_ports (s : State) (dq : Bool) :
    (s.internalPhases dq).rdata = 0#32 ∧ (s.internalPhases dq).busErr = false ∧ (s.internalPhases dq).pwmWe = false ∧
    (s.internalPhases dq).pending = s.pending.tail ∧ (s.internalPhases dq).cycle = s.cycle + 1 := by
  have h := fsmPhase_frame s.usTick s.status.fsm (edgePhase dq s.status.fsm (timerPhase s.beginCycle))
  have h' := edgePhase_frame dq s.status.fsm (timerPhase s.beginCycle)
  exact ⟨h.2.2.2.2.2.1.trans (h'.2.2.2.2.2.1.trans rfl), h.2.2.2.2.2.2.1.trans (h'.2.2.2.2.2.2.1.trans rfl),
    h.2.2.2.2.2.2.2.1.trans (h'.2.2.2.2.2.2.2.1.trans rfl),
    h.2.2.2.2.2.2.2.2.1.trans (h'.2.2.2.2.2.2.2.2.2.1.trans rfl),
    h.2.2.2.2.2.2.2.2.2.trans (h'.2.2.2.2.2.2.2.2.2.2.trans rfl)⟩

/-- Phase (a), as seen at the end of phase (b): the prescaler and TS. -/
theorem internalPhases_time (s : State) (dq : Bool) :
    (s.internalPhases dq).presc = (if s.usTick then 0 else s.presc + 1) ∧
    (s.internalPhases dq).ts = (if s.usTick then s.ts + 1#32 else s.ts) := by
  have h := fsmPhase_frame s.usTick s.status.fsm (edgePhase dq s.status.fsm (timerPhase s.beginCycle))
  have h' := edgePhase_frame dq s.status.fsm (timerPhase s.beginCycle)
  exact ⟨h.2.2.2.2.1.trans (h'.2.2.2.2.1.trans rfl), h.2.2.2.1.trans (h'.2.2.2.1.trans rfl)⟩

/-- A step is a reset, a cycle without a transaction, or a transaction on the state phases (a) and (b) leave. -/
theorem step_cases (s : State) :
    (s.nextInput.rst = true ∧ step s = .next s.resetCycle) ∨
    (s.nextInput.rst = false ∧ s.nextInput.req = none ∧ step s = .next (s.internalPhases s.nextInput.dqIn)) ∨
    (∃ tw, s.nextInput.rst = false ∧ s.nextInput.req = some tw ∧
      step s = exec (decodeTW tw) (s.internalPhases s.nextInput.dqIn)) := by
  unfold step
  cases hr : s.nextInput.rst
  · cases hq : s.nextInput.req with
    | none => exact .inr (.inl ⟨rfl, rfl, rfl⟩)
    | some tw => exact .inr (.inr ⟨tw, rfl, rfl, rfl⟩)
  · exact .inl ⟨rfl, rfl⟩

end Sys2Proof.Machine
end

