-- ==== Sys2Proof/Laws/Exec.lean ====
section
/-! SUPPORT. What a transaction leaves alone, whatever it is, and the cases of the two commands that compute. -/

namespace Sys2Proof.Machine

/-- PIC_SETPOINT writes the consigne, or records ConfigError or NumericError (43_controller.md R222, R223). -/
theorem setpointApplied_cases (s : State) :
    (∃ v, setpoint s.cfg s.pic = .ok v ∧ setpointApplied s = { s with pic.consigne := encodeF32 v }) ∨
    (setpoint s.cfg s.pic = .error .configError ∧ setpointApplied s = s.raise .configError) ∨
    (setpoint s.cfg s.pic = .error .numericError ∧ setpointApplied s = s.raise .numericError) := by
  have h : (∃ v, setpoint s.cfg s.pic = .ok v) ∨ setpoint s.cfg s.pic = .error .configError ∨
      setpoint s.cfg s.pic = .error .numericError := by
    unfold setpoint setpointOf
    split
    · exact .inr (.inl rfl)
    · split
      · exact .inl ⟨_, rfl⟩
      · dsimp only
        split
        · exact .inl ⟨_, rfl⟩
        · exact .inr (.inr rfl)
  rcases h with ⟨v, h⟩ | h | h
  · exact .inl ⟨v, h, by simp only [setpointApplied, h]⟩
  · exact .inr (.inl ⟨h, by simp only [setpointApplied, h]⟩)
  · exact .inr (.inr ⟨h, by simp only [setpointApplied, h]⟩)

/-- PIC_REGULATE completes its step, or records NumericError with `pwm_we` = 0 (43_controller.md R231 to R235). -/
theorem regulateApplied_cases (s : State) :
    (∃ r, regulate s.cfg s.pic = .ok r ∧ regulateApplied s = s.regulated r) ∨
    (regulate s.cfg s.pic = .error .numericError ∧
      regulateApplied s = { s.raise .numericError with pwmWe := false }) := by
  have h : (∃ r, regulate s.cfg s.pic = .ok r) ∨ regulate s.cfg s.pic = .error .numericError := by
    unfold regulate
    dsimp only
    split
    · exact .inl ⟨_, rfl⟩
    · exact .inr rfl
  rcases h with ⟨r, h⟩ | h
  · exact .inl ⟨r, h, by simp only [regulateApplied, h]⟩
  · exact .inr ⟨h, by simp only [regulateApplied, h]⟩

/-- A transaction leaves the parameters, the time base, the environment's records and phase (b)'s mark. -/
theorem exec_frame (i : Instr) (s t : State) (h : exec i s = .next t) :
    t.cfg = s.cfg ∧ t.ts = s.ts ∧ t.presc = s.presc ∧ t.pending = s.pending ∧ t.cycle = s.cycle ∧
    t.doneSetB = s.doneSetB := by
  cases i <;> (injection h with h; subst h)
  case swdStart => split <;> exact ⟨rfl, rfl, rfl, rfl, rfl, rfl⟩
  case picSetpoint => rcases setpointApplied_cases s with ⟨v, -, h⟩ | ⟨-, h⟩ | ⟨-, h⟩ <;> rw [h] <;> simp
  case picLux => split <;> exact ⟨rfl, rfl, rfl, rfl, rfl, rfl⟩
  case picRegulate => rcases regulateApplied_cases s with ⟨r, -, h⟩ | ⟨-, h⟩ <;> rw [h] <;> simp
  all_goals exact ⟨rfl, rfl, rfl, rfl, rfl, rfl⟩

/-- A cycle without reset and with a transaction. -/
theorem step_of_request (s : State) (tw : TW) (h0 : s.nextInput.rst = false) (h1 : s.nextInput.req = some tw) :
    step s = exec (decodeTW tw) (s.internalPhases s.nextInput.dqIn) := by
  rcases step_cases s with ⟨h, -⟩ | ⟨-, h, -⟩ | ⟨tw', -, h, h'⟩
  · rw [h0] at h; cases h
  · rw [h1] at h; cases h
  · rw [h1] at h; injection h with h; rw [h', h]

/-- A cycle without reset and without a transaction. -/
theorem step_of_no_request (s : State) (h0 : s.nextInput.rst = false) (h1 : s.nextInput.req = none) :
    step s = .next (s.internalPhases s.nextInput.dqIn) := by
  rcases step_cases s with ⟨h, -⟩ | ⟨-, -, h⟩ | ⟨tw, -, h, -⟩
  · rw [h0] at h; cases h
  · exact h
  · rw [h1] at h; cases h

/-- A cycle with reset. -/
theorem step_of_reset (s : State) (h : s.nextInput.rst = true) : step s = .next s.resetCycle := by
  rcases step_cases s with ⟨-, h'⟩ | ⟨h', -⟩ | ⟨tw, h', -⟩
  · exact h'
  · rw [h] at h'; cases h'
  · rw [h] at h'; cases h'

end Sys2Proof.Machine
end

