-- ==== Sys2Proof/Laws/Float.lean ====
section
/-! SUPPORT. The image of a NaN, and what a stored NaN luminosity does to the regulation step. -/

namespace Sys2Proof.Machine

/-- The image of a NaN is a NaN encoding, whatever is chosen for it (00_scope.md R11). -/
@[simp] theorem decodeF32_nanWord (choice : Word) : decodeF32 (nanWord choice) = .nan := by
  unfold nanWord
  split
  · assumption
  · decide

@[simp] theorem imageOf_nan (choice : Word) : imageOf choice .nan = nanWord choice := rfl

/-- The choice concerns a NaN alone: every other value has its one encoding (00_scope.md R11). -/
theorem imageOf_of_ne_nan (choice : Word) (x : F32) (h : x ≠ .nan) : imageOf choice x = encodeF32 x := by
  cases x with
  | nan => exact absurd rfl h
  | inf neg => rfl
  | fin neg mag => rfl

@[simp] theorem fsub_nan (x : F32) : fsub x .nan = .nan := by cases x <;> rfl

/-- Where lux(raw) is a NaN, PIC_LUX stores a NaN encoding (43_controller.md R226). -/
theorem luxImage_of_nan (cfg : Config.Params) (raw : BitVec 16) (h : luxScale cfg raw = .nan) :
    decodeF32 (luxImage cfg raw) = .nan := by
  simp [luxImage, h]

/-- A NaN luminosity makes er a NaN, which the numeric guard refuses (43_controller.md R231). -/
theorem regulate_of_nan_lux (cfg : Config.Params) (p : Pic) (h : decodeF32 p.lux = .nan) :
    regulate cfg p = .error .numericError := by
  simp [regulate, regTerms, RegTerms.finite, h, isFinite]

/-- A PIC_REGULATE on a NaN luminosity records NumericError and drives nothing (43_controller.md R231). -/
theorem execPicRegulate_of_nan_lux (s : State) (h : decodeF32 s.pic.lux = .nan) :
    execPicRegulate s = .next ({ s.raise .numericError with pwmWe := false }.answer 0#32) := by
  simp only [execPicRegulate, regulateApplied, regulate_of_nan_lux _ _ h, commandDone]

end Sys2Proof.Machine
end

