-- ==== Sys2Proof/Laws/PerInstr.lean ====
section
/-! SUPPORT. The family EncodesInItsRow: the word of a well-formed instruction matches its own row of
spec/opcode_table.json, one lemma for each constructor. -/

namespace Sys2Proof.Laws.EncodesInItsRow

/-- The encoder's word is the row's: `word AND mask = pattern` for the row the constructor stands for. -/
def Statement (i : Instr) : Prop :=
  i.wellFormed = true → ∀ r ∈ opcodeRows, r.priority = i.row → r.hit (encode i) = true

/-- A packed word against a row that fixes WE, ADDR or parts of them and no bit of DATA. -/
theorem hit_of_fields {p : Nat} {we mwe pwe : Bool} {addr maddr paddr : Byte} {data : Word}
    (hw : (we && mwe) = pwe) (ha : addr &&& maddr = paddr) :
    OpcodeRow.hit ⟨p, packTW mwe maddr 0#32, packTW pwe paddr 0#32⟩ (packTW we addr data) = true := by
  have e : (BitVec.ofBool we ++ addr ++ data) &&& (BitVec.ofBool mwe ++ maddr ++ 0#32) =
      BitVec.ofBool pwe ++ paddr ++ 0#32 := by
    rw [BitVec.and_append, BitVec.and_append, BitVec.and_zero, ha, ← hw]
    cases we <;> cases mwe <;> rfl
  exact beq_iff_eq.mpr e

/-- A statement about the one row with a given priority. -/
theorem of_row {i : Instr} (n : Nat) (r0 : OpcodeRow) (hn : i.row = n)
    (huniq : ∀ r ∈ opcodeRows, r.priority = n → r = r0)
    (h : i.wellFormed = true → r0.hit (encode i) = true) : Statement i :=
  fun hw r hr hp => by rw [huniq r hr (hp.trans hn)]; exact h hw

theorem busErrorOdd (we : Bool) (addr : Byte) (data : Word) : Statement (.busErrorOdd we addr data) :=
  of_row 1 ⟨1, 0x00100000000#41, 0x00100000000#41⟩ rfl (by decide) fun h =>
    hit_of_fields (mwe := false) (pwe := false) (maddr := 0x01#8) (paddr := 0x01#8) (by simp)
      (by revert h; simp only [Instr.wellFormed]; revert addr; decide)

theorem busErrorHalf (we : Bool) (addr : Byte) (data : Word) : Statement (.busErrorHalf we addr data) :=
  of_row 2 ⟨2, 0x00200000000#41, 0x00200000000#41⟩ rfl (by decide) fun h =>
    hit_of_fields (mwe := false) (pwe := false) (maddr := 0x02#8) (paddr := 0x02#8) (by simp)
      (by revert h; simp only [Instr.wellFormed]; revert addr; decide)

theorem busErrorUnmapped54 (we : Bool) (addr : Byte) (data : Word) : Statement (.busErrorUnmapped54 we addr data) :=
  of_row 3 ⟨3, 0x0FC00000000#41, 0x05400000000#41⟩ rfl (by decide) fun h =>
    hit_of_fields (mwe := false) (pwe := false) (maddr := 0xFC#8) (paddr := 0x54#8) (by simp)
      (by revert h; simp only [Instr.wellFormed, alignedAddr]; revert addr; decide)

theorem busErrorUnmapped58 (we : Bool) (addr : Byte) (data : Word) : Statement (.busErrorUnmapped58 we addr data) :=
  of_row 4 ⟨4, 0x0F800000000#41, 0x05800000000#41⟩ rfl (by decide) fun h =>
    hit_of_fields (mwe := false) (pwe := false) (maddr := 0xF8#8) (paddr := 0x58#8) (by simp)
      (by revert h; simp only [Instr.wellFormed, alignedAddr]; revert addr; decide)

theorem busErrorUnmapped60 (we : Bool) (addr : Byte) (data : Word) : Statement (.busErrorUnmapped60 we addr data) :=
  of_row 5 ⟨5, 0x0E000000000#41, 0x06000000000#41⟩ rfl (by decide) fun h =>
    hit_of_fields (mwe := false) (pwe := false) (maddr := 0xE0#8) (paddr := 0x60#8) (by simp)
      (by revert h; simp only [Instr.wellFormed, alignedAddr]; revert addr; decide)

theorem busErrorUnmapped80 (we : Bool) (addr : Byte) (data : Word) : Statement (.busErrorUnmapped80 we addr data) :=
  of_row 6 ⟨6, 0x08000000000#41, 0x08000000000#41⟩ rfl (by decide) fun h =>
    hit_of_fields (mwe := false) (pwe := false) (maddr := 0x80#8) (paddr := 0x80#8) (by simp)
      (by revert h; simp only [Instr.wellFormed, alignedAddr]; revert addr; decide)

theorem rdCmd : Statement .rdCmd :=
  of_row 7 ⟨7, 0x1FF00000000#41, 0x00000000000#41⟩ rfl (by decide) (fun _ => by decide)

theorem rdStatus : Statement .rdStatus :=
  of_row 8 ⟨8, 0x1FF00000000#41, 0x00400000000#41⟩ rfl (by decide) (fun _ => by decide)

theorem rdIrqEn : Statement .rdIrqEn :=
  of_row 9 ⟨9, 0x1FF00000000#41, 0x00800000000#41⟩ rfl (by decide) (fun _ => by decide)

theorem rdSwdEdges : Statement .rdSwdEdges :=
  of_row 10 ⟨10, 0x1FF00000000#41, 0x00C00000000#41⟩ rfl (by decide) (fun _ => by decide)

theorem rdSwdHumid : Statement .rdSwdHumid :=
  of_row 11 ⟨11, 0x1FF00000000#41, 0x01000000000#41⟩ rfl (by decide) (fun _ => by decide)

theorem rdSwdTemp : Statement .rdSwdTemp :=
  of_row 12 ⟨12, 0x1FF00000000#41, 0x01400000000#41⟩ rfl (by decide) (fun _ => by decide)

theorem rdSwdCsum : Statement .rdSwdCsum :=
  of_row 13 ⟨13, 0x1FF00000000#41, 0x01800000000#41⟩ rfl (by decide) (fun _ => by decide)

theorem rdSwdTstart : Statement .rdSwdTstart :=
  of_row 14 ⟨14, 0x1FF00000000#41, 0x01C00000000#41⟩ rfl (by decide) (fun _ => by decide)

theorem rdSwdTimeout : Statement .rdSwdTimeout :=
  of_row 15 ⟨15, 0x1FF00000000#41, 0x02000000000#41⟩ rfl (by decide) (fun _ => by decide)

theorem rdTs : Statement .rdTs :=
  of_row 16 ⟨16, 0x1FF00000000#41, 0x02400000000#41⟩ rfl (by decide) (fun _ => by decide)

theorem rdPicS : Statement .rdPicS :=
  of_row 17 ⟨17, 0x1FF00000000#41, 0x02800000000#41⟩ rfl (by decide) (fun _ => by decide)

theorem rdPicD : Statement .rdPicD :=
  of_row 18 ⟨18, 0x1FF00000000#41, 0x02C00000000#41⟩ rfl (by decide) (fun _ => by decide)

theorem rdPicA : Statement .rdPicA :=
  of_row 19 ⟨19, 0x1FF00000000#41, 0x03000000000#41⟩ rfl (by decide) (fun _ => by decide)

theorem rdPicHour : Statement .rdPicHour :=
  of_row 20 ⟨20, 0x1FF00000000#41, 0x03400000000#41⟩ rfl (by decide) (fun _ => by decide)

theorem rdPicLuxin : Statement .rdPicLuxin :=
  of_row 21 ⟨21, 0x1FF00000000#41, 0x03800000000#41⟩ rfl (by decide) (fun _ => by decide)

theorem rdPicConsigne : Statement .rdPicConsigne :=
  of_row 22 ⟨22, 0x1FF00000000#41, 0x03C00000000#41⟩ rfl (by decide) (fun _ => by decide)

theorem rdPicLux : Statement .rdPicLux :=
  of_row 23 ⟨23, 0x1FF00000000#41, 0x04000000000#41⟩ rfl (by decide) (fun _ => by decide)

theorem rdPicLuxraw : Statement .rdPicLuxraw :=
  of_row 24 ⟨24, 0x1FF00000000#41, 0x04400000000#41⟩ rfl (by decide) (fun _ => by decide)

theorem rdPicInteg : Statement .rdPicInteg :=
  of_row 25 ⟨25, 0x1FF00000000#41, 0x04800000000#41⟩ rfl (by decide) (fun _ => by decide)

theorem rdPicOutput : Statement .rdPicOutput :=
  of_row 26 ⟨26, 0x1FF00000000#41, 0x04C00000000#41⟩ rfl (by decide) (fun _ => by decide)

theorem rdPicPwm : Statement .rdPicPwm :=
  of_row 27 ⟨27, 0x1FF00000000#41, 0x05000000000#41⟩ rfl (by decide) (fun _ => by decide)

theorem nop : Statement .nop :=
  of_row 28 ⟨28, 0x1FFFFFFFFFF#41, 0x10000000000#41⟩ rfl (by decide) (fun _ => by decide)

theorem swdStart : Statement .swdStart :=
  of_row 29 ⟨29, 0x1FFFFFFFFFF#41, 0x10000000001#41⟩ rfl (by decide) (fun _ => by decide)

theorem picSetpoint : Statement .picSetpoint :=
  of_row 30 ⟨30, 0x1FFFFFFFFFF#41, 0x10000000002#41⟩ rfl (by decide) (fun _ => by decide)

theorem picLux : Statement .picLux :=
  of_row 31 ⟨31, 0x1FFFFFFFFFF#41, 0x10000000003#41⟩ rfl (by decide) (fun _ => by decide)

theorem picRegulate : Statement .picRegulate :=
  of_row 32 ⟨32, 0x1FFFFFFFFFF#41, 0x10000000004#41⟩ rfl (by decide) (fun _ => by decide)

theorem illegalCmd (data : Word) : Statement (.illegalCmd data) :=
  of_row 33 ⟨33, 0x1FF00000000#41, 0x10000000000#41⟩ rfl (by decide) fun _ =>
    hit_of_fields (mwe := true) (pwe := true) (maddr := 0xFF#8) (paddr := 0x00#8) rfl rfl

theorem wrStatus (data : Word) : Statement (.wrStatus data) :=
  of_row 34 ⟨34, 0x1FF00000000#41, 0x10400000000#41⟩ rfl (by decide) fun _ =>
    hit_of_fields (mwe := true) (pwe := true) (maddr := 0xFF#8) (paddr := 0x04#8) rfl rfl

theorem wrIrqEn (data : Word) : Statement (.wrIrqEn data) :=
  of_row 35 ⟨35, 0x1FF00000000#41, 0x10800000000#41⟩ rfl (by decide) fun _ =>
    hit_of_fields (mwe := true) (pwe := true) (maddr := 0xFF#8) (paddr := 0x08#8) rfl rfl

theorem wrSwdEdges (data : Word) : Statement (.wrSwdEdges data) :=
  of_row 36 ⟨36, 0x1FF00000000#41, 0x10C00000000#41⟩ rfl (by decide) fun _ =>
    hit_of_fields (mwe := true) (pwe := true) (maddr := 0xFF#8) (paddr := 0x0C#8) rfl rfl

theorem wrSwdHumid (data : Word) : Statement (.wrSwdHumid data) :=
  of_row 37 ⟨37, 0x1FF00000000#41, 0x11000000000#41⟩ rfl (by decide) fun _ =>
    hit_of_fields (mwe := true) (pwe := true) (maddr := 0xFF#8) (paddr := 0x10#8) rfl rfl

theorem wrSwdTemp (data : Word) : Statement (.wrSwdTemp data) :=
  of_row 38 ⟨38, 0x1FF00000000#41, 0x11400000000#41⟩ rfl (by decide) fun _ =>
    hit_of_fields (mwe := true) (pwe := true) (maddr := 0xFF#8) (paddr := 0x14#8) rfl rfl

theorem wrSwdCsum (data : Word) : Statement (.wrSwdCsum data) :=
  of_row 39 ⟨39, 0x1FF00000000#41, 0x11800000000#41⟩ rfl (by decide) fun _ =>
    hit_of_fields (mwe := true) (pwe := true) (maddr := 0xFF#8) (paddr := 0x18#8) rfl rfl

theorem wrSwdTstart (data : Word) : Statement (.wrSwdTstart data) :=
  of_row 40 ⟨40, 0x1FF00000000#41, 0x11C00000000#41⟩ rfl (by decide) fun _ =>
    hit_of_fields (mwe := true) (pwe := true) (maddr := 0xFF#8) (paddr := 0x1C#8) rfl rfl

theorem wrSwdTimeout (data : Word) : Statement (.wrSwdTimeout data) :=
  of_row 41 ⟨41, 0x1FF00000000#41, 0x12000000000#41⟩ rfl (by decide) fun _ =>
    hit_of_fields (mwe := true) (pwe := true) (maddr := 0xFF#8) (paddr := 0x20#8) rfl rfl

theorem wrTs (data : Word) : Statement (.wrTs data) :=
  of_row 42 ⟨42, 0x1FF00000000#41, 0x12400000000#41⟩ rfl (by decide) fun _ =>
    hit_of_fields (mwe := true) (pwe := true) (maddr := 0xFF#8) (paddr := 0x24#8) rfl rfl

theorem wrPicS (data : Word) : Statement (.wrPicS data) :=
  of_row 43 ⟨43, 0x1FF00000000#41, 0x12800000000#41⟩ rfl (by decide) fun _ =>
    hit_of_fields (mwe := true) (pwe := true) (maddr := 0xFF#8) (paddr := 0x28#8) rfl rfl

theorem wrPicD (data : Word) : Statement (.wrPicD data) :=
  of_row 44 ⟨44, 0x1FF00000000#41, 0x12C00000000#41⟩ rfl (by decide) fun _ =>
    hit_of_fields (mwe := true) (pwe := true) (maddr := 0xFF#8) (paddr := 0x2C#8) rfl rfl

theorem wrPicA (data : Word) : Statement (.wrPicA data) :=
  of_row 45 ⟨45, 0x1FF00000000#41, 0x13000000000#41⟩ rfl (by decide) fun _ =>
    hit_of_fields (mwe := true) (pwe := true) (maddr := 0xFF#8) (paddr := 0x30#8) rfl rfl

theorem wrPicHour (data : Word) : Statement (.wrPicHour data) :=
  of_row 46 ⟨46, 0x1FF00000000#41, 0x13400000000#41⟩ rfl (by decide) fun _ =>
    hit_of_fields (mwe := true) (pwe := true) (maddr := 0xFF#8) (paddr := 0x34#8) rfl rfl

theorem wrPicLuxin (data : Word) : Statement (.wrPicLuxin data) :=
  of_row 47 ⟨47, 0x1FF00000000#41, 0x13800000000#41⟩ rfl (by decide) fun _ =>
    hit_of_fields (mwe := true) (pwe := true) (maddr := 0xFF#8) (paddr := 0x38#8) rfl rfl

theorem wrPicConsigne (data : Word) : Statement (.wrPicConsigne data) :=
  of_row 48 ⟨48, 0x1FF00000000#41, 0x13C00000000#41⟩ rfl (by decide) fun _ =>
    hit_of_fields (mwe := true) (pwe := true) (maddr := 0xFF#8) (paddr := 0x3C#8) rfl rfl

theorem wrPicLux (data : Word) : Statement (.wrPicLux data) :=
  of_row 49 ⟨49, 0x1FF00000000#41, 0x14000000000#41⟩ rfl (by decide) fun _ =>
    hit_of_fields (mwe := true) (pwe := true) (maddr := 0xFF#8) (paddr := 0x40#8) rfl rfl

theorem wrPicLuxraw (data : Word) : Statement (.wrPicLuxraw data) :=
  of_row 50 ⟨50, 0x1FF00000000#41, 0x14400000000#41⟩ rfl (by decide) fun _ =>
    hit_of_fields (mwe := true) (pwe := true) (maddr := 0xFF#8) (paddr := 0x44#8) rfl rfl

theorem wrPicInteg (data : Word) : Statement (.wrPicInteg data) :=
  of_row 51 ⟨51, 0x1FF00000000#41, 0x14800000000#41⟩ rfl (by decide) fun _ =>
    hit_of_fields (mwe := true) (pwe := true) (maddr := 0xFF#8) (paddr := 0x48#8) rfl rfl

theorem wrPicOutput (data : Word) : Statement (.wrPicOutput data) :=
  of_row 52 ⟨52, 0x1FF00000000#41, 0x14C00000000#41⟩ rfl (by decide) fun _ =>
    hit_of_fields (mwe := true) (pwe := true) (maddr := 0xFF#8) (paddr := 0x4C#8) rfl rfl

theorem wrPicPwm (data : Word) : Statement (.wrPicPwm data) :=
  of_row 53 ⟨53, 0x1FF00000000#41, 0x15000000000#41⟩ rfl (by decide) fun _ =>
    hit_of_fields (mwe := true) (pwe := true) (maddr := 0xFF#8) (paddr := 0x50#8) rfl rfl

end Sys2Proof.Laws.EncodesInItsRow
end

