-- ==== Sys2Proof/Machine/HostScript.lean ====
section
/-! DEFINITION. The host-script syntax of 30_encoding.md R108 and the pseudo-instructions of R109, as data and the
request each line presents. One line is one cycle. No step of the block uses them; a script becomes the model's input by
`scriptInputs`. -/

namespace Sys2Proof.Machine

/-- A line of a host script (30_encoding.md R108). -/
inductive ScriptLine where
  | rd (r : Reg)
  | wr (r : Reg) (imm : Word)
  | nopCycle
  deriving DecidableEq, Repr

/-- The transaction a line presents in its cycle (30_encoding.md R108). -/
def ScriptLine.request : ScriptLine → Option TW
  | .rd r => some (packTW false r.offset 0#32)
  | .wr r imm => some (packTW true r.offset imm)
  | .nopCycle => none

/-- The names of R103's opcode map. -/
inductive OpName where
  | nop
  | swdStart
  | picSetpoint
  | picLux
  | picRegulate
  deriving DecidableEq, Repr

/-- The opcode of a command (30_encoding.md R103). -/
def OpName.code : OpName → Word
  | .nop => 0x00#32
  | .swdStart => 0x01#32
  | .picSetpoint => 0x02#32
  | .picLux => 0x03#32
  | .picRegulate => 0x04#32

/-- `CMD <OPNAME>` = `WR CMD, <OP>` (30_encoding.md R109). -/
def cmdLine (op : OpName) : ScriptLine := .wr .cmd op.code

/-- `WRF <REG>, <decimal>` = `WR REG, bits(rnd32(decimal))` (30_encoding.md R109), the decimal as ±num/den. -/
def wrfLine (r : Reg) (neg : Bool) (num den : Nat) : ScriptLine := .wr r (encodeF32 (rnd32 neg (num * 2 ^ 149) den))

/-- `W1C <FIELD>{, <FIELD>}`: a write of STATUS with the fields' bits set (30_encoding.md R109), by their bit numbers. -/
def w1cLine (bits : List Nat) : ScriptLine := .wr .status (bits.foldl (fun acc k => acc ||| (1#32 <<< k)) 0#32)

/-- `LUXIN <raw16>, <count>` = `WR PIC_LUXIN, (count << 16) OR raw16` (30_encoding.md R109). -/
def luxinLine (raw : BitVec 16) (count : BitVec 2) : ScriptLine := .wr .picLuxin ((count ++ raw).setWidth 32)

/-- `IDLE <n>`: n cycles with no transaction (30_encoding.md R109). -/
def idleLines (n : Nat) : List ScriptLine := List.replicate n .nopCycle

/-- `n` reads of the loop `POLL <REG>, ...`, one per cycle (30_encoding.md R109); how many there are is the host's to see. -/
def pollLines (r : Reg) (n : Nat) : List ScriptLine := List.replicate n (.rd r)

/-- The input records of a script with the wire at one level and no reset. -/
def scriptInputs (dq : Bool) (ls : List ScriptLine) : List Input :=
  ls.map fun l => { rst := false, dqIn := dq, req := l.request }

end Sys2Proof.Machine
end

