-- ==== Sys2Proof/Machine/HostView.lean ====
section
/-! DEFINITION. How a host reads the registers: the byte view of 20_memory.md R86 and the readings of the frame words of
10_state.md R46. No step of the block uses them. -/

namespace Sys2Proof.Machine

/-- Byte `k` of a register: bits [8k+7:8k] (20_memory.md R86). -/
def registerByte (s : State) (r : Reg) (k : Nat) : Byte := (regImage s r).extractLsb' (8 * k) 8

/-- The register whose four bytes start at an offset: a multiple of 4 up to 0x50 (10_state.md R32). -/
def registerAt (off : Nat) : Option Reg := if off < 0x54 then Reg.ofOffset (BitVec.ofNat 8 off) else none

/-- The byte at a system address, for the registers placed at `base` (20_memory.md R86); none outside the map. R81 leaves the
decoding of the address bits above the offset open: that they are decoded in full, so that an address below `base` or from
`base` + 0x100 on reaches no register and no register has an alias, is a DESIGN CHOICE (log 22; unsafe). -/
def hostByte (base : Nat) (s : State) (a : Nat) : Option Byte :=
  if a < base then none
  else (registerAt ((a - base) / 4 * 4)).map fun r => registerByte s r ((a - base) % 4)

/-- The relative humidity in tenths of a percent: unsigned (10_state.md R46). -/
def humidTenths (h : BitVec 16) : Nat := h.toNat

/-- The temperature in tenths of a degree, under either reading of the open parameter TEMP_FORMAT (10_state.md R46,
90_conflicts.md C3). -/
def tempTenths (f : Config.TempFormat) (t : BitVec 16) : Int :=
  match f with
  | .signMagnitude => if t.getLsbD 15 then -((t.extractLsb' 0 15).toNat : Int) else (t.extractLsb' 0 15).toNat
  | .twosComplement => t.toInt

end Sys2Proof.Machine
end

