-- ==== Sys2Proof/Tests/Slice0.lean ====
section
/-! SUPPORT. Tests of the model against the words of the spec's encodings and the vectors of 95_test_vectors.md, and for each
statement with hypotheses a state and operands that meet them. -/

namespace Sys2Proof.Tests

open Sys2Proof.Machine

/-! ### Helpers -/

/-- The block of 95_test_vectors.md just after reset: CLK_PER_US = 1, the default parameters. -/
def base : State := .resetWith (Config.defaultGains 1)

/-- The same block with CLK_PER_US = 3. -/
def slow : State := .resetWith (Config.defaultGains 3)

/-- The next cycle presents `tw` with the wire as it was and no reset. -/
def present (s : State) (tw : TW) : State :=
  { s with pending := [{ rst := false, dqIn := s.swd.linePrev, req := some tw }] }

/-- The next `n` cycles present nothing, with the wire as it was and no reset. -/
def quiet (n : Nat) (s : State) : State :=
  { s with pending := List.replicate n { rst := false, dqIn := s.swd.linePrev, req := none } }

/-- The next `n` cycles are reset cycles, each with a transaction. -/
def resetting (n : Nat) (s : State) : State :=
  { s with pending := List.replicate n { rst := true, dqIn := false, req := some 0x10000000001#41 } }

/-- A view of the next state. -/
def seen {α : Type} (f : State → α) : Result → Option α
  | .next t => some (f t)
  | .fault _ => none
  | .refused _ => none

/-- A view of the state one cycle after presenting `tw`. -/
def oneCycle {α : Type} (s : State) (tw : TW) (f : State → α) : Option α := seen f (step (present s tw))

/-- The controller of 95_test_vectors.md 2.8: consigne, luminosity and integrator given. -/
def regIn (c l i : Word) : State := { base with pic.consigne := c, pic.lux := l, pic.integ := i }

/-- The controller of 95_test_vectors.md 2.6: the hour given, PIC_CONSIGNE = 0x12345678. -/
def spIn (h : Word) : State := { base with pic.hour := h, pic.consigne := 0x12345678#32 }

/-- PIC_LUXIN given (95_test_vectors.md 2.7). -/
def luxIn (v : BitVec 18) : State := { base with pic.luxIn := v }

/-- The front end in a state with an edge count and the fields of 95_test_vectors.md 2.3. -/
def edgeIn (f : SwdState) (n : BitVec 7) (tPrev dPrev : Word) : State :=
  { base with status.fsm := f, swd.edgeCount := n, swd.tPrev := tPrev, swd.dPrev := dPrev }

/-- A front end about to commit: the edge count and the accumulators given, after 10000 ticks. -/
def deciding (n : BitVec 7) (h t : BitVec 16) (c : BitVec 8) : State :=
  { base with
    status.fsm := .decoding, swd.edgeCount := n, swd.accH := h, swd.accT := t, swd.accC := c, swd.pcnt := 10000#17 }

/-- An acquisition just started: TSTART_L and TIMEOUT_L given. -/
def started (ts win : BitVec 16) : State :=
  { base with status.fsm := .requesting, swd.tstartL := ts, swd.timeoutL := win }

/-- Every input of the first `n` cycles from `s` meets `p`. -/
def inputsMeet (p : Input → Bool) : Nat → State → Bool
  | 0, _ => true
  | n + 1, s =>
    p s.nextInput && match step s with
      | .next t => inputsMeet p n t
      | .fault _ => true
      | .refused _ => true

theorem inputsMeet_run (p : Input → Bool) (n : Nat) (s : State) (h : inputsMeet p n s = true) (k : Nat) (hk : k < n)
    (t : State) (ht : run k s = .next t) : p t.nextInput = true := by
  induction n generalizing s k with
  | zero => omega
  | succ n ih =>
    simp only [inputsMeet, Bool.and_eq_true] at h
    cases k with
    | zero => injection ht with ht; rw [← ht]; exact h.1
    | succ k =>
      cases hs : step s with
      | next u =>
        simp only [hs] at h
        simp only [run, hs] at ht
        exact ih u h.2 k (by omega) ht
      | fault r => cases r
      | refused r => simp only [run, hs] at ht; cases ht

theorem noReset_of (n : Nat) (s : State) (h : inputsMeet (fun i => !i.rst) n s = true) : NoReset n s := by
  intro k hk t ht
  have := inputsMeet_run _ n s h k hk t ht
  simpa using this

theorem allReset_of (n : Nat) (s : State) (h : inputsMeet (fun i => i.rst) n s = true) : AllReset n s :=
  fun k hk t ht => inputsMeet_run _ n s h k hk t ht

theorem noStart_of (n : Nat) (s : State) (h : inputsMeet (fun i => i.req.isNone) n s = true) : NoStart n s := by
  intro k hk t tw ht hr
  have := inputsMeet_run _ n s h k hk t ht
  rw [hr] at this
  cases this

/-! ### WellFormed refuses (20_memory.md R83, R84, 40_cycle_and_bus.md R143) -/

theorem test_wf_odd : (Instr.busErrorOdd false 0x02#8 0#32).wellFormed = false := by decide
theorem test_wf_half : (Instr.busErrorHalf false 0x03#8 0#32).wellFormed = false := by decide
theorem test_wf_half_even : (Instr.busErrorHalf false 0x04#8 0#32).wellFormed = false := by decide
theorem test_wf_54_misaligned : (Instr.busErrorUnmapped54 false 0x56#8 0#32).wellFormed = false := by decide
theorem test_wf_54 : (Instr.busErrorUnmapped54 false 0x50#8 0#32).wellFormed = false := by decide
theorem test_wf_58 : (Instr.busErrorUnmapped58 true 0x60#8 0#32).wellFormed = false := by decide
theorem test_wf_60 : (Instr.busErrorUnmapped60 true 0x80#8 0#32).wellFormed = false := by decide
theorem test_wf_80 : (Instr.busErrorUnmapped80 true 0x7C#8 0#32).wellFormed = false := by decide
theorem test_wf_illegal : (Instr.illegalCmd 0x04#32).wellFormed = false := by decide

/-! ### Decoding: words written out from 30_encoding.md R101, R103 and 10_state.md R32; the V-DEC words of 95_test_vectors.md -/

/-- V-DEC-15 to V-DEC-19, and one word for each other BUS_ERROR row. -/
theorem test_decode_bus_errors :
    decodeTW 0x05400000000#41 = .busErrorUnmapped54 false 0x54#8 0#32 ∧
    decodeTW 0x0FC00000000#41 = .busErrorUnmapped80 false 0xFC#8 0#32 ∧
    decodeTW 0x00200000000#41 = .busErrorHalf false 0x02#8 0#32 ∧
    decodeTW 0x10100000001#41 = .busErrorOdd true 0x01#8 1#32 ∧
    decodeTW 0x1FF00000000#41 = .busErrorOdd true 0xFF#8 0#32 ∧
    decodeTW 0x05800000000#41 = .busErrorUnmapped58 false 0x58#8 0#32 ∧
    decodeTW 0x15CDEADBEEF#41 = .busErrorUnmapped58 true 0x5C#8 0xDEADBEEF#32 ∧
    decodeTW 0x16000000007#41 = .busErrorUnmapped60 true 0x60#8 7#32 ∧
    decodeTW 0x07C00000000#41 = .busErrorUnmapped60 false 0x7C#8 0#32 ∧
    decodeTW 0x18000000000#41 = .busErrorUnmapped80 true 0x80#8 0#32 := by
  decide

/-- V-DEC-10 to V-DEC-12 and V-DEC-14, and the reads of every other offset. -/
theorem test_decode_reads :
    decodeTW 0x00000000000#41 = .rdCmd ∧ decodeTW 0x00400000000#41 = .rdStatus ∧
    decodeTW 0x004FFFFFFFF#41 = .rdStatus ∧ decodeTW 0x00800000000#41 = .rdIrqEn ∧
    decodeTW 0x00C00000000#41 = .rdSwdEdges ∧ decodeTW 0x01000000000#41 = .rdSwdHumid ∧
    decodeTW 0x01400000000#41 = .rdSwdTemp ∧ decodeTW 0x01800000000#41 = .rdSwdCsum ∧
    decodeTW 0x01C00000000#41 = .rdSwdTstart ∧ decodeTW 0x02000000000#41 = .rdSwdTimeout ∧
    decodeTW 0x02400000000#41 = .rdTs ∧ decodeTW 0x02800000000#41 = .rdPicS ∧
    decodeTW 0x02C00000000#41 = .rdPicD ∧ decodeTW 0x03000000000#41 = .rdPicA ∧
    decodeTW 0x03400000000#41 = .rdPicHour ∧ decodeTW 0x03800000000#41 = .rdPicLuxin ∧
    decodeTW 0x03C00000000#41 = .rdPicConsigne ∧ decodeTW 0x04000000000#41 = .rdPicLux ∧
    decodeTW 0x04400000000#41 = .rdPicLuxraw ∧ decodeTW 0x04800000000#41 = .rdPicInteg ∧
    decodeTW 0x04C00000000#41 = .rdPicOutput ∧ decodeTW 0x05000000000#41 = .rdPicPwm := by
  decide

/-- V-DEC-1 to V-DEC-9. -/
theorem test_decode_commands :
    decodeTW 0x10000000000#41 = .nop ∧ decodeTW 0x10000000001#41 = .swdStart ∧
    decodeTW 0x10000000002#41 = .picSetpoint ∧ decodeTW 0x10000000003#41 = .picLux ∧
    decodeTW 0x10000000004#41 = .picRegulate ∧ decodeTW 0x10000000005#41 = .illegalCmd 0x5#32 ∧
    decodeTW 0x100000000FF#41 = .illegalCmd 0xFF#32 ∧ decodeTW 0x10000000105#41 = .illegalCmd 0x105#32 ∧
    decodeTW 0x10080000001#41 = .illegalCmd 0x80000001#32 := by
  decide

/-- V-DEC-13, V-DEC-20, words of P1 to P6, and the writes of every other offset. -/
theorem test_decode_writes :
    decodeTW 0x10400000020#41 = .wrStatus 0x20#32 ∧ decodeTW 0x10800000001#41 = .wrIrqEn 1#32 ∧
    decodeTW 0x10C00000001#41 = .wrSwdEdges 1#32 ∧ decodeTW 0x11000000001#41 = .wrSwdHumid 1#32 ∧
    decodeTW 0x11400000001#41 = .wrSwdTemp 1#32 ∧ decodeTW 0x11800000001#41 = .wrSwdCsum 1#32 ∧
    decodeTW 0x11C00000005#41 = .wrSwdTstart 5#32 ∧ decodeTW 0x12012345678#41 = .wrSwdTimeout 0x12345678#32 ∧
    decodeTW 0x12400000005#41 = .wrTs 5#32 ∧ decodeTW 0x12840C00000#41 = .wrPicS 0x40C00000#32 ∧
    decodeTW 0x12C00000000#41 = .wrPicD 0#32 ∧ decodeTW 0x13043960000#41 = .wrPicA 0x43960000#32 ∧
    decodeTW 0x13441500000#41 = .wrPicHour 0x41500000#32 ∧ decodeTW 0x138FFFFFFFF#41 = .wrPicLuxin 0xFFFFFFFF#32 ∧
    decodeTW 0x13C3F800000#41 = .wrPicConsigne 0x3F800000#32 ∧ decodeTW 0x14000000001#41 = .wrPicLux 1#32 ∧
    decodeTW 0x14400000001#41 = .wrPicLuxraw 1#32 ∧ decodeTW 0x14800000001#41 = .wrPicInteg 1#32 ∧
    decodeTW 0x14C00000001#41 = .wrPicOutput 1#32 ∧ decodeTW 0x15000000001#41 = .wrPicPwm 1#32 := by
  decide

/-- The byte decoder: six bytes, the least significant first, and its two rejections (log 1). -/
theorem test_decode_bytes :
    decodeBytes [0x05#8, 0#8, 0#8, 0#8, 0x24#8, 0x01#8] = .ok (.wrTs 5#32) ∧
    decodeBytes [0#8, 0#8, 0#8, 0#8, 0#8] = .error .wrongLength ∧
    decodeBytes [0#8, 0#8, 0#8, 0#8, 0#8, 0x02#8] = .error .bitsAboveTW ∧
    decodeTableWord 48 0x10000000001 = some .swdStart ∧ decodeTableWord 41 0x05000000000 = some .rdPicPwm := by
  decide

/-- The host-script lines of P1 to P6 present the words of 95_test_vectors.md. -/
theorem test_script_words :
    (cmdLine .picRegulate).request = some 0x10000000004#41 ∧
    (w1cLine [8, 9]).request = some 0x10400000300#41 ∧
    (luxinLine 1440#16 2#2).request = some 0x138000205A0#41 ∧
    (wrfLine .picA false 300 1).request = some 0x13043960000#41 := by
  decide

/-! ### One cycle, from 95_test_vectors.md -/

/-- V-REG-A12 and V-ERR-1: the response, ERR_BUS alone, no command. -/
theorem test_bus_error :
    oneCycle base 0x05400000000#41 (fun t => (t.rdata, t.busErr, t.status.image)) = some (0#32, true, 0x8000#32) ∧
    oneCycle base 0x10100000001#41 (fun t => (t.rdata, t.busErr, t.status.image)) = some (0#32, true, 0x8000#32) := by
  decide

/-- The example of R139 and V-REG-A7; TS is read after the tick of its own cycle (R136). -/
theorem test_read :
    oneCycle base 0x01C00000000#41 State.rdata = some 0x3E8#32 ∧ oneCycle base 0#41 State.rdata = some 0#32 ∧
    oneCycle base 0x02400000000#41 State.rdata = some 1#32 := by
  decide

/-- V-REG-A1 to V-REG-A4. -/
theorem test_write_fields :
    oneCycle base 0x12012345678#41 (fun t => regImage t .swdTimeout) = some 0x5678#32 ∧
    oneCycle base 0x11CFFFF0000#41 (fun t => regImage t .swdTstart) = some 0#32 ∧
    oneCycle base 0x138FFFFFFFF#41 (fun t => regImage t .picLuxin) = some 0x3FFFF#32 ∧
    oneCycle base 0x108FFFFFFFF#41 (fun t => regImage t .irqEn) = some 1#32 := by
  decide

/-- V-REG-A5, V-REG-A6 and V-REG-A8. -/
theorem test_write_raw :
    oneCycle base 0x12400000005#41 (fun t => (t.ts, t.busErr)) = some (1#32, false) ∧
    oneCycle base 0x13C3F800000#41 (fun t => t.pic.consigne) = some 0#32 ∧
    oneCycle base 0x1287FC00001#41 (fun t => t.pic.dayStart) = some 0x7FC00001#32 := by
  decide

/-- V-REG-A9: 0x6080 becomes 0x4080. V-REG-A10 and V-REG-A11: 0x71 stays, and becomes 0x51. -/
theorem test_write_status :
    (let s := { base with status.luxValid := true, status.pwmChanged := true, status.awFrozen := true }
     s.status.image = 0x6080#32 ∧ oneCycle s 0x104FFFFFFFF#41 (fun t => t.status.image) = some 0x4080#32) ∧
    (let s := { base with status.result := .valid, status.dataValid := true, status.done := true,
                          status.edge0Level := true }
     s.status.image = 0x71#32 ∧ oneCycle s 0x10400000010#41 (fun t => t.status.image) = some 0x71#32 ∧
     oneCycle s 0x10400000020#41 (fun t => t.status.image) = some 0x51#32) := by
  decide

/-- V-ERR-2 and the example of R143. -/
theorem test_illegal_command :
    oneCycle base 0x10000000105#41 (fun t => (t.busErr, t.status.image)) = some (false, 0x100#32) ∧
    oneCycle base 0x10000000005#41 (fun t => (t.busErr, t.status.image)) = some (false, 0x100#32) := by
  decide

/-- P3, cycles 0 and 1: accepted, then rejected with ERR_START_BUSY. -/
theorem test_swd_start :
    oneCycle base 0x10000000001#41 (fun t => (t.status.image, t.dqOe)) = some (0x4#32, true) ∧
    oneCycle (started 1000 10000) 0x10000000001#41 (fun t => (t.status.image, t.dqOe)) = some (0x204#32, true) := by
  decide

/-- V-SP-8 (the midpoint), V-SP-10 (h = S + D), V-SP-13 (-0.0). -/
theorem test_setpoint :
    oneCycle (spIn 0x41500000#32) 0x10000000002#41 (fun t => (t.pic.consigne, t.status.image)) =
      some (0x447A0000#32, 0#32) ∧
    oneCycle (spIn 0x41A00000#32) 0x10000000002#41 (fun t => t.pic.consigne) = some 0#32 ∧
    oneCycle { spIn 0x40C00000#32 with pic.amplitude := 0xC47A0000#32 } 0x10000000002#41 (fun t => t.pic.consigne) =
      some 0x80000000#32 := by
  decide

/-- V-SP-12 (D = 0) and V-SP-16 (q overflows): the consigne stays. -/
theorem test_setpoint_errors :
    oneCycle { spIn 0x41500000#32 with pic.duration := 0#32 } 0x10000000002#41
      (fun t => (t.pic.consigne, t.status.image)) = some (0x12345678#32, 0x800#32) ∧
    oneCycle { spIn 0x41500000#32 with pic.amplitude := 0x7F000000#32 } 0x10000000002#41
      (fun t => (t.pic.consigne, t.status.image)) = some (0x12345678#32, 0x1000#32) := by
  decide

/-- V-LUX-6, V-LUX-10 and V-LUX-12. -/
theorem test_lux :
    oneCycle (luxIn 0x204B0#18) 0x10000000003#41 (fun t => (t.pic.lux, t.pic.luxRaw, t.status.image)) =
      some (0x43F9FFFF#32, 0x4B0#16, 0x80#32) ∧
    oneCycle (luxIn 0x2FFFF#18) 0x10000000003#41 (fun t => t.pic.lux) = some 0x46D5547F#32 ∧
    oneCycle (luxIn 0x11234#18) 0x10000000003#41 (fun t => (t.pic.lux, t.pic.luxRaw, t.status.image)) =
      some (0#32, 0#16, 0x400#32) := by
  decide

/-- LUX_DIV1 = 0 and raw = 0: 0/0 is a NaN (00_scope.md R12), PIC_LUX stores a NaN encoding (R11), and a PIC_REGULATE on it is a
NumericError (43_controller.md R231). -/
theorem test_lux_nan :
    let s : State := { luxIn 0x20000#18 with cfg.luxDiv1 := 0#32 }
    ∃ t u, exec .picLux s = .next t ∧ decodeF32 t.pic.lux = .nan ∧ exec .picRegulate t = .next u ∧
      u.status.numErr = true := by
  intro s
  have hl : exec .picLux s = .next ({ s with pic := s.pic.loadLux s.cfg, status.luxValid := true }.answer 0#32) := by
    change commandDone (if _ then _ else _) = _
    rw [if_neg (by decide)]
    rfl
  have hn : decodeF32 (s.pic.loadLux s.cfg).lux = .nan := luxImage_of_nan _ _ (by decide)
  exact ⟨_, _, hl, hn, execPicRegulate_of_nan_lux _ hn, rfl⟩

/-- V-REG-16 and EX-3 (frozen), V-REG-10 (a half rounds away), V-REG-2 (clamp at 0). -/
theorem test_regulate :
    oneCycle (regIn 0x447A0000#32 0x43F9FFFF#32 0#32) 0x10000000004#41
      (fun t => (t.pic.integ, t.pic.output, t.pic.pwm, t.pwmWe, t.status.image)) =
      some (0#32, 0x437F0000#32, 255#8, true, 0x6000#32) ∧
    oneCycle (regIn 0x42C80000#32 0#32 0#32) 0x10000000004#41
      (fun t => (t.pic.integ, t.pic.output, t.pic.pwm, t.status.image)) =
      some (0x3F000000#32, 0x42A10000#32, 81#8, 0x2000#32) ∧
    oneCycle (regIn 0#32 0x42C80000#32 0xC1200000#32) 0x10000000004#41
      (fun t => (t.pic.integ, t.pic.output, t.pic.pwm, t.pwmWe)) = some (0xC1200000#32, 0#32, 0#8, false) := by
  decide

/-- V-REG-13 (u overflows) and V-REG-15 (write on change). -/
theorem test_regulate_edges :
    oneCycle (regIn 0x7F61B1E6#32 0#32 0x7F61B1E6#32) 0x10000000004#41
      (fun t => (t.pic.integ, t.pic.output, t.pic.pwm, t.status.image)) = some (0x7F61B1E6#32, 0#32, 0#8, 0x1000#32) ∧
    oneCycle { regIn 0x43960000#32 0#32 0#32 with pic.pwm := 242#8 } 0x10000000004#41
      (fun t => (t.pic.output, t.pic.pwm, t.pwmWe, t.status.image)) =
      some (0x43718000#32, 242#8, false, 0#32) := by
  decide

/-- V-EDGE-1, V-EDGE-5, V-EDGE-7 and V-EDGE-14. -/
theorem test_edges :
    (let t := edgePhase true .listening { edgeIn .listening 0#7 0#32 0#32 with swd.linePrev := false, ts := 1003#32 }
     (t.status.edge0Level, t.swd.tPrev, t.swd.edgeCount) = (true, 1003#32, 1#7)) ∧
    (let t := edgePhase false .listening { edgeIn .listening 5#7 1243#32 50#32 with ts := 1313#32 }
     (t.swd.accH, t.swd.dPrev, t.swd.edgeCount) = (1#16, 70#32, 6#7)) ∧
    (let t := edgePhase false .listening { edgeIn .listening 5#7 1243#32 50#32 with ts := 1293#32 }
     (t.swd.accH, t.swd.dPrev) = (0#16, 50#32)) ∧
    (let t := edgePhase false .listening { edgeIn .listening 84#7 1243#32 50#32 with ts := 1293#32 }
     (t.swd.edgeCount, t.swd.tPrev, t.swd.linePrev) = (84#7, 1243#32, false)) := by
  decide

/-- V-CS-1, V-CS-2, V-CS-3 and V-CS-5. -/
theorem test_checksum :
    frameOk 0x0258#16 0x00C8#16 0x22#8 = true ∧ frameOk 0x0258#16 0x00C8#16 0x20#8 = false ∧
    frameOk 0xFFFF#16 0xFFFF#16 0xFC#8 = true ∧ frameSum 0x0190#16 0x00FA#16 = 0x8B#8 := by
  decide

/-- P1's, P2's and P3's commits: STATUS 0x31 (no edge-0 level here), 0x23 and 0x22, and the frame words. -/
theorem test_commits :
    seen (fun t => (t.status.image, t.swd.humid, t.swd.temp, t.swd.csum))
      (step (quiet 1 (deciding 84 0x0258 0x00C8 0x22))) = some (0x31#32, 0x0258#16, 0x00C8#16, 0x22#8) ∧
    seen (fun t => (t.status.image, t.swd.humid, t.swd.temp, t.swd.csum))
      (step (quiet 1 (deciding 84 0x0190 0x00FA 0x00))) = some (0x23#32, 0#16, 0#16, 0#8) ∧
    seen (fun t => (t.status.image, t.swd.humid)) (step (quiet 1 (deciding 1 0 0 0))) = some (0x22#32, 0#16) := by
  decide

/-- The table of 95_test_vectors.md 2.9. -/
theorem test_rounding :
    u8 (decodeF32 0x3EFFFFFF#32) = 0#8 ∧ u8 (decodeF32 0x3F000000#32) = 1#8 ∧ u8 (decodeF32 0x40900000#32) = 5#8 ∧
    u8 (decodeF32 0x43748000#32) = 245#8 ∧ u8 (decodeF32 0x437E8000#32) = 255#8 := by
  decide

/-- The host's readings (10_state.md R46, 20_memory.md R86): tenths of a degree, and the bytes of a register. -/
theorem test_host_view :
    tempTenths .signMagnitude 0x8065#16 = -101 ∧ tempTenths .twosComplement 0x00C8#16 = 200 ∧
    hostByte 0x4000 { base with pic.dayStart := 0x40C01234#32 } 0x4028 = some 0x34#8 ∧
    hostByte 0x4000 base 0x402B = some 0x40#8 ∧ hostByte 0x4000 base 0x4054 = none := by
  decide

/-! ### Witnesses: a state and operands that meet the hypotheses of a statement, clause by clause -/

/-- DecodeOfEncodeIsIdentity and StepRunsTheDecodedTransaction: each constructor with a condition, at a boundary. -/
theorem witness_wellFormed :
    (Instr.busErrorOdd true 0x01#8 1#32).wellFormed = true ∧ (Instr.busErrorHalf false 0xFE#8 0#32).wellFormed = true ∧
    (Instr.busErrorUnmapped54 true 0x54#8 0#32).wellFormed = true ∧
    (Instr.busErrorUnmapped58 true 0x5C#8 0#32).wellFormed = true ∧
    (Instr.busErrorUnmapped60 true 0x7C#8 0#32).wellFormed = true ∧
    (Instr.busErrorUnmapped80 true 0x80#8 0#32).wellFormed = true ∧
    (Instr.illegalCmd 5#32).wellFormed = true ∧ (Instr.illegalCmd 0x100#32).wellFormed = true ∧
    Instr.wellFormed .rdPicPwm = true ∧ (Instr.wrStatus 0x20#32).wellFormed = true := by
  decide

/-- DecodeFollowsThePrecedence, BusErrorHasOneEffect and IllegalCommandSetsItsFlag: words on both sides of each boundary. -/
theorem witness_precedence :
    (addrOf 0x05000000000#41 &&& 3#8 = 0#8 ∧ (addrOf 0x05000000000#41).toNat = 0x50) ∧
    (addrOf 0x05400000000#41 &&& 3#8 = 0#8 ∧ (addrOf 0x05400000000#41).toNat = 0x54) ∧
    addrOf 0x04D00000000#41 &&& 3#8 = 1#8 ∧
    ((5#32).extractLsb' 0 8).toNat = 5 ∧ (0x100#32).extractLsb' 8 24 = 1#24 ∧
    ((4#32).extractLsb' 8 24 = 0#24 ∧ ((4#32).extractLsb' 0 8).toNat = 4) := by
  decide

/-- StepRunsTheDecodedTransaction, ReadSeesItsOwnCycle (TS in a tick cycle). -/
theorem witness_request :
    let s := present base 0x02400000000#41
    s.nextInput.rst = false ∧ s.nextInput.req = some 0x02400000000#41 ∧ s.nextInput.req = some (encode .rdTs) ∧
    decodeTW 0x02400000000#41 = decodeRead .ts ∧ s.usTick = true := by
  decide

/-- ReadSeesItsOwnCycle: STATUS in the cycle of a commit, SWD_EDGES in the cycle of an edge. -/
theorem witness_read_events :
    (let s := present (deciding 84 0x0258 0x00C8 0x22) 0x00400000000#41
     s.nextInput.rst = false ∧ s.nextInput.req = some 0x00400000000#41 ∧
     decodeTW 0x00400000000#41 = decodeRead .status ∧ s.status.fsm = .decoding) ∧
    (let s : State :=
       { edgeIn .listening 83#7 0#32 0#32 with pending := [{ rst := false, dqIn := false, req := some 0xC00000000#41 }] }
     s.nextInput.rst = false ∧ s.nextInput.req = some 0x00C00000000#41 ∧
     decodeTW 0x00C00000000#41 = decodeRead .swdEdges ∧
     edgeCaptured s.nextInput.dqIn s.status.fsm s.swd = true) := by
  decide

/-- CycleWithoutTransaction and OutputPortsFollowTheState. -/
theorem witness_no_request : (quiet 1 base).nextInput.rst = false ∧ (quiet 1 base).nextInput.req = none ∧
    ∃ t, step (quiet 1 base) = .next t :=
  ⟨by decide, by decide, ⟨_, rfl⟩⟩

/-- ResetOverridesTheCycle, one and two reset cycles, in the middle of an acquisition. -/
theorem witness_all_reset :
    AllReset (0 + 1) (resetting 1 (started 1000 10000)) ∧ AllReset (1 + 1) (resetting 2 (started 1000 10000)) :=
  ⟨allReset_of _ _ (by decide), allReset_of _ _ (by decide)⟩

/-- TimestampCountsMicroseconds, first clause, with S.PRESC at its largest value; StepKeepsTimeBase, StepKeepsParameters. -/
theorem witness_time :
    let s := quiet 2 { slow with presc := 2 }
    s.timeOk ∧ NoReset 2 s ∧ (∃ t, run 2 s = .next t) ∧ ∃ t, step s = .next t :=
  ⟨by unfold State.timeOk; decide, noReset_of _ _ (by decide), ⟨_, rfl⟩, ⟨_, rfl⟩⟩

/-- TimestampCountsMicroseconds, second clause, CLK_PER_US = 3 and k = 2. -/
theorem witness_time_from_reset :
    let s : State := quiet 3 { State.resetWith (Config.defaultGains 3) with cycle := 7 }
    1 ≤ (Config.defaultGains 3).clkPerUs ∧ NoReset (2 + 1) s ∧ ∃ t, run (2 + 1) s = .next t :=
  ⟨by decide, noReset_of _ _ (by decide), ⟨_, rfl⟩⟩

/-- SetWinsOverClear: a W1C of SWD_DONE in the commit cycle, and in another. -/
theorem witness_w1c :
    (let s := present (deciding 1 0 0 0) (packTW true 0x04#8 0x20#32)
     s.nextInput.rst = false ∧ s.nextInput.req = some (packTW true 0x04#8 0x20#32) ∧ s.status.fsm = .decoding) ∧
    (let s := present { base with status.done := true } (packTW true 0x04#8 0x20#32)
     s.nextInput.rst = false ∧ s.nextInput.req = some (packTW true 0x04#8 0x20#32) ∧ s.status.fsm ≠ .decoding) := by
  decide

/-- AccessesAreIdempotent: a read, and a write of a register other than CMD. -/
theorem witness_accesses :
    (∃ t, exec (decodeRead .status) base = .next t) ∧
    (Reg.status ≠ .cmd ∧ ∃ t, exec (decodeWrite 0x20#32 .status) base = .next t) :=
  ⟨⟨_, rfl⟩, by decide, ⟨_, rfl⟩⟩

/-- FlagsAreSticky: every sticky flag is 1 and a cycle passes, with a W1C of all of them and with nothing. -/
theorem witness_flags :
    let f (s : State) : State :=
      { s with
        status.done := true, status.errIllegalCmd := true, status.errStartBusy := true, status.luxShort := true
        status.cfgErr := true, status.numErr := true, status.pwmChanged := true, status.errBus := true }
    ((f (quiet 1 base)).nextInput.rst = false ∧ ∃ t, step (f (quiet 1 base)) = .next t) ∧
    ((f (present base (packTW true 0x04#8 0xFFFF#32))).nextInput.rst = false ∧
      ∃ t, step (f (present base (packTW true 0x04#8 0xFFFF#32))) = .next t) :=
  ⟨⟨by decide, ⟨_, rfl⟩⟩, by decide, ⟨_, rfl⟩⟩

/-- FlagsChangeNoBehaviour. -/
theorem witness_unflagged :
    let s : State := { base with status.errBus := true, status.result := .timeout }
    (∃ t, exec .swdStart s = .next t) ∧
    ∃ u, exec .swdStart { s with status := { s.status.ack 0xFFFFFFFF#32 false with result := .none } } = .next u :=
  ⟨⟨_, rfl⟩, ⟨_, rfl⟩⟩

/-- InterruptRisesOnlyByCommitOrEnable: it rises by a commit with DONE_IE set and by a write of DONE_IE with SWD_DONE set, is
masked by a write of 0, falls by a W1C of SWD_DONE outside a commit cycle, holds in a quiet cycle, and reset drops it. -/
theorem witness_irq :
    let up : State := { base with status.done := true, doneIe := true }
    let rises (s : State) : Prop := s.nextInput.rst = false ∧ s.irq = false ∧ seen State.irq (step s) = some true
    let falls (s : State) : Prop := s.nextInput.rst = false ∧ s.irq = true ∧ seen State.irq (step s) = some false
    up.irq = true ∧
    (let s := quiet 1 { deciding 1 0 0 0 with doneIe := true }
     rises s ∧ s.status.fsm = .decoding ∧ seen State.doneIe (step s) = some true) ∧
    (let s := present { base with status.done := true } (packTW true 0x08#8 1#32)
     rises s ∧ s.nextInput.req = some (packTW true 0x08#8 1#32) ∧ (1#32).getLsbD 0 = true) ∧
    (let s := present up (packTW true 0x08#8 2#32)
     falls s ∧ s.nextInput.req = some (packTW true 0x08#8 2#32) ∧ (2#32).getLsbD 0 = false) ∧
    (let s := present up (packTW true 0x04#8 0x20#32)
     falls s ∧ s.nextInput.req = some (packTW true 0x04#8 0x20#32) ∧ (0x20#32).getLsbD 5 = true ∧
     s.status.fsm ≠ .decoding) ∧
    seen State.irq (step (quiet 1 up)) = some true ∧ seen State.irq (step (resetting 1 up)) = some false := by
  decide

/-- IllegalCommandSetsItsFlag: the least illegal word of each kind. -/
theorem witness_illegal :
    (let s := present base (packTW true 0x00#8 5#32)
     5 ≤ ((5#32).extractLsb' 0 8).toNat ∧ s.nextInput.rst = false ∧
     s.nextInput.req = some (packTW true 0x00#8 5#32)) ∧
    (let s := present base (packTW true 0x00#8 0x100#32)
     (0x100#32).extractLsb' 8 24 ≠ 0#24 ∧ s.nextInput.rst = false ∧
     s.nextInput.req = some (packTW true 0x00#8 0x100#32)) := by
  decide

/-- EdgePhaseCaptures: each clause, at the bounds of the edge index. -/
theorem witness_edges :
    (¬(false ≠ (edgeIn .listening 84#7 0#32 0#32).swd.linePrev ∧ SwdState.listening = .listening ∧
      (edgeIn .listening 84#7 0#32 0#32).swd.edgeCount.toNat < 84)) ∧
    (false ≠ (edgeIn .listening 0#7 0#32 0#32).swd.linePrev ∧
      (edgeIn .listening 0#7 0#32 0#32).swd.edgeCount.toNat = 0) ∧
    (false ≠ (edgeIn .listening 1#7 0#32 0#32).swd.linePrev ∧
      1 ≤ (edgeIn .listening 1#7 0#32 0#32).swd.edgeCount.toNat) ∧
    (false ≠ (edgeIn .listening 83#7 0#32 0#32).swd.linePrev ∧
      1 ≤ (edgeIn .listening 83#7 0#32 0#32).swd.edgeCount.toNat ∧
      (edgeIn .listening 83#7 0#32 0#32).swd.edgeCount.toNat < 84) := by
  decide

/-- CompleteFrameMapsTheBits: the first and the last bit of each word. -/
theorem witness_frame :
    base.swd.edgeCount = 0#7 ∧ (0 < 16 ∧ 15 < 16) ∧ (16 ≤ 16 ∧ 31 < 32) ∧ (32 ≤ 32 ∧ 39 < 40) := by decide

/-- StartAcceptedOnlyWhenIdle: both outcomes, and a cycle that starts in IDLE or in DECODING. -/
theorem witness_start :
    base.status.fsm = .idle ∧ (started 1 1).status.fsm ≠ .idle ∧
    (let s := present base 0x10000000001#41
     s.nextInput.rst = false ∧ s.nextInput.req = some 0x10000000001#41 ∧ s.status.fsm = .idle) ∧
    (let s := present (deciding 1 0 0 0) 0x10000000001#41
     s.nextInput.rst = false ∧ s.nextInput.req = some 0x10000000001#41 ∧ s.status.fsm = .decoding) := by
  decide

/-- IdleWaitsForStart: a cycle that leaves IDLE. -/
theorem witness_idle :
    (present base 0x10000000001#41).status.fsm = .idle ∧
    seen (fun t => decide (t.status.fsm ≠ .idle)) (step (present base 0x10000000001#41)) = some true := by
  decide

/-- RequestingCountsAndArms: no tick; a tick that counts, at equality; the tick that arms. -/
theorem witness_requesting :
    (let s : State := { slow with status.fsm := .requesting }
     s.status.fsm = .requesting ∧ s.usTick = false) ∧
    (let s : State := { started 1000 10000 with swd.pcnt := 999#17 }
     s.status.fsm = .requesting ∧ s.usTick = true ∧ min (s.swd.pcnt.toNat + 1) (2 ^ 17 - 1) ≤ s.swd.tstartL.toNat) ∧
    (let s : State := { started 1000 10000 with swd.pcnt := 1000#17 }
     s.status.fsm = .requesting ∧ s.usTick = true ∧
     s.swd.tstartL.toNat < min (s.swd.pcnt.toNat + 1) (2 ^ 17 - 1)) := by
  decide

/-- ListeningEndsAtFrameOrTimeout. -/
theorem witness_listening : (edgeIn .listening 83#7 0#32 0#32).status.fsm = .listening := by decide

/-- CommitAloneChangesTheReading: each outcome, and a cycle that starts in another state. -/
theorem witness_commit :
    (let s := quiet 1 (deciding 84 0x0258 0x00C8 0x22)
     s.nextInput.rst = false ∧ (∃ t, step s = .next t) ∧ s.status.fsm = .decoding ∧ s.swd.edgeCount.toNat = 84 ∧
     frameOk s.swd.accH s.swd.accT s.swd.accC = true) ∧
    (let s := quiet 1 (deciding 84 0x0190 0x00FA 0x00)
     s.nextInput.rst = false ∧ (∃ t, step s = .next t) ∧ s.status.fsm = .decoding ∧ s.swd.edgeCount.toNat = 84 ∧
     frameOk s.swd.accH s.swd.accT s.swd.accC = false) ∧
    (let s := present (deciding 83 0 0 0) 0x10000000001#41
     s.nextInput.rst = false ∧ (∃ t, step s = .next t) ∧ s.status.fsm = .decoding ∧ s.swd.edgeCount.toNat ≠ 84 ∧
     seen (fun t => decide (t.status.fsm ≠ .idle)) (step s) = some true) ∧
    (let s := quiet 1 base
     s.nextInput.rst = false ∧ (∃ t, step s = .next t) ∧ s.status.fsm ≠ .decoding) :=
  ⟨⟨by decide, ⟨_, rfl⟩, by decide⟩, ⟨by decide, ⟨_, rfl⟩, by decide⟩, ⟨by decide, ⟨_, rfl⟩, by decide⟩,
    by decide, ⟨_, rfl⟩, by decide⟩

/-- NoCancellation: a busy SWD_START, a reset in REQUESTING, and a cycle in each state of an acquisition. -/
theorem witness_busy :
    ((started 1 1).status.fsm ≠ .idle ∧ ∃ t, exec .swdStart (started 1 1) = .next t) ∧
    (let s := resetting 1 (started 1 1)
     s.nextInput.rst = true ∧ ∃ t, step s = .next t) ∧
    (let s := quiet 1 (started 0 1)
     s.nextInput.rst = false ∧ (∃ t, step s = .next t) ∧ s.status.fsm = .requesting) ∧
    (let s := quiet 1 (edgeIn .listening 0#7 0#32 0#32)
     s.nextInput.rst = false ∧ (∃ t, step s = .next t) ∧ s.status.fsm = .listening) ∧
    (let s := quiet 1 (deciding 1 0 0 0)
     s.nextInput.rst = false ∧ (∃ t, step s = .next t) ∧ s.status.fsm = .decoding) :=
  ⟨⟨by decide, ⟨_, rfl⟩⟩, ⟨by decide, ⟨_, rfl⟩⟩, ⟨by decide, ⟨_, rfl⟩, by decide⟩, ⟨by decide, ⟨_, rfl⟩, by decide⟩,
    by decide, ⟨_, rfl⟩, by decide⟩

/-- StartPulseLength: TSTART_L = 0, the shortest pulse. -/
theorem witness_pulse :
    let s := quiet 1 (started 0 0)
    s.timeOk ∧ s.status.fsm = .requesting ∧ s.swd.pcnt = 0#17 ∧
    NoReset ((s.swd.tstartL.toNat + 1) * s.cfg.clkPerUs) s :=
  ⟨by unfold State.timeOk; decide, by decide, by decide, noReset_of _ _ (by decide)⟩

/-- AcquisitionTerminates: TSTART_L = 0 and TIMEOUT_L = 0, three cycles. -/
theorem witness_termination :
    let s := quiet 3 (started 0 0)
    s.timeOk ∧ s.status.fsm = .requesting ∧ s.swd.pcnt = 0#17 ∧
    NoReset ((s.swd.tstartL.toNat + 1) * s.cfg.clkPerUs + max 1 (s.swd.timeoutL.toNat * s.cfg.clkPerUs) + 1) s :=
  ⟨by unfold State.timeOk; decide, by decide, by decide, noReset_of _ _ (by decide)⟩

/-- IdleKeepsTheResult. -/
theorem witness_quiet :
    let s := quiet 2 base
    s.status.fsm = .idle ∧ NoReset 2 s ∧ NoStart 2 s ∧ (∃ t, run 2 s = .next t) ∧ s.status.done = false :=
  ⟨by decide, noReset_of _ _ (by decide), noStart_of _ _ (by decide), ⟨_, rfl⟩, by decide⟩

/-- StepKeepsAcquisition and StepKeepsReading, at the bounds of the first and with a reading in the second. -/
theorem witness_front_end_invariants :
    (let s : State := quiet 1 { edgeIn .listening 83#7 0#32 0#32 with swd.pcnt := 9999#17 }
     s.acquisitionOk ∧ ∃ t, step s = .next t) ∧
    (let s : State :=
       quiet 1 { base with status.dataValid := true, status.result := .valid, swd.humid := 0x0258#16,
                           swd.temp := 0x00C8#16, swd.csum := 0x22#8 }
     s.readingOk ∧ ∃ t, step s = .next t) :=
  ⟨⟨by unfold State.acquisitionOk; decide, ⟨_, rfl⟩⟩, by unfold State.readingOk; decide, ⟨_, rfl⟩⟩

/-- FrontEndIgnoresTheController and ControllerIgnoresTheFrontEnd: two different states that agree on one side. -/
theorem witness_sides :
    (let s := present base 0x10000000004#41
     let t := present (regIn 0x42C80000#32 0#32 0#32) 0x10000000004#41
     s ≠ t ∧ sameFrontEnd s t ∧ s.nextInput = t.nextInput ∧ (∃ s', step s = .next s') ∧ ∃ t', step t = .next t') ∧
    (let s := present base 0x10000000004#41
     let t := present (started 5 5) 0x10000000004#41
     s ≠ t ∧ sameController s t ∧ s.nextInput = t.nextInput ∧ (∃ s', step s = .next s') ∧
     ∃ t', step t = .next t') :=
  ⟨⟨by decide, by unfold sameFrontEnd; decide, by decide, ⟨_, rfl⟩, ⟨_, rfl⟩⟩,
    by decide, by unfold sameController; decide, by decide, ⟨_, rfl⟩, ⟨_, rfl⟩⟩

/-- RoundingIsTiesToEven: 3/2 units lie as near to 1 as to 2. -/
theorem witness_tie :
    0 < 2 ∧ roundedBits 3 2 < 0x7F800000 ∧ 1 < 0x7F800000 ∧ 1 ≠ roundedBits 3 2 ∧
    |((3 : ℕ) : ℤ) - (2 : ℕ) * magOfBits (roundedBits 3 2)| = |((3 : ℕ) : ℤ) - (2 : ℕ) * magOfBits 1| := by
  decide

/-- RoundingIsTiesToEven, third clause: the least and the greatest finite magnitude. -/
theorem witness_finite_bits : 0 < 0x7F800000 ∧ 0x7F7FFFFF < 0x7F800000 := by decide

/-- CorrectlyRounded: 1.0, its own nearest value, is below the overflow bound; and 2^128 - 2^103 is not. -/
theorem witness_overflow_bound :
    |f32Val fone| < 2 ^ 128 - 2 ^ 103 ∧ (2 : ℚ) ^ 128 - 2 ^ 103 ≤ |2 ^ 128 - 2 ^ 103| ∧
    isFinite (decodeF32 0x3F800000#32) = true :=
  ⟨by norm_num [f32Val, fone, f32OfNat, signedMag], le_abs_self _, by decide⟩

/-- EncodingsRoundTrip: exponents 0, 254 and 255; -0.0, the least subnormal and an infinity are no NaN. -/
theorem witness_no_nan :
    ((0x7FC00000#32).extractLsb' 23 8).toNat = 255 ∧ ((0x7F7FFFFF#32).extractLsb' 23 8).toNat = 254 ∧
    ((1#32).extractLsb' 23 8).toNat = 0 ∧
    decodeF32 0x80000000#32 ≠ .nan ∧ decodeF32 1#32 ≠ .nan ∧ decodeF32 0xFF800000#32 ≠ .nan := by decide

/-- OperationsAreCorrectlyRounded: finite operands, a divisor that is no zero and one that is, a NaN and none. -/
theorem witness_operands :
    (isFinite fone = true ∧ isFinite fzero = true ∧ f32Val fone ≠ 0 ∧ f32Val fzero = 0) ∧
    (F32.nan = .nan ∧ fone ≠ .nan ∧ F32.inf true ≠ .nan) :=
  ⟨⟨rfl, rfl, by norm_num [f32Val, fone, f32OfNat, signedMag], by norm_num [f32Val, fzero, signedMag]⟩, by decide⟩

/-- The operations on operands whose exact results are known: 1 + 1 = 2, 1 - 1 = +0.0, the greatest value doubled overflows,
1 + 2^-24 is a tie that goes to 1.0, 2^-149 / 2 one that goes to -0.0 with a negative divisor. -/
theorem test_operations :
    fadd fone fone = ftwo ∧ fsub fone fone = fzero ∧ fmul (decodeF32 0x7F7FFFFF#32) ftwo = .inf false ∧
    fadd fone (decodeF32 0x33800000#32) = fone ∧ fdiv (decodeF32 1#32) (fneg ftwo) = .fin true 0 ∧
    fdiv fone fzero = .inf false ∧ fle (decodeF32 0x80000000#32) fzero = true ∧ flt (decodeF32 0x80000000#32) fzero = false := by
  decide +kernel

/-- RoundHalfAwayIsNearest: a half, and both ends of u8's range. -/
theorem witness_halves :
    |2 * signedMag true (2 ^ 148) - 2 ^ 150 * roundHalfAway true (2 ^ 148)| = 2 ^ 149 ∧
    (fle fzero (.fin true 0) = true ∧ fle (.fin true 0) (f32OfNat 255) = true) ∧
    (fle fzero (.fin false (255 * 2 ^ 149)) = true ∧ fle (.fin false (255 * 2 ^ 149)) (f32OfNat 255) = true) := by
  decide

/-- CosineMeetsItsConditions. -/
theorem witness_cosine : isFinite (decodeF32 0x3F800000#32) = true ∧ isFinite (decodeF32 0x7F800000#32) = false := by
  decide

/-- SetpointCurveProperties: the hours 0, 24, 6, 20 and 13 of the day from 6 to 20; and h = +0.0 with S = -0.0. -/
theorem witness_curve :
    let x (h : Word) : F32 :=
      fdiv (fmul (decodeF32 (spIn h).cfg.twoPi) (fsub (decodeF32 h) (decodeF32 (spIn h).pic.dayStart)))
        (decodeF32 (spIn h).pic.duration)
    base.cfg.twoPi = 0x40C90FDB#32 ∧ isFinite (decodeF32 base.pic.dayStart) = true ∧
    isFinite (decodeF32 base.pic.duration) = true ∧ isFinite (decodeF32 base.pic.amplitude) = true ∧
    fgt (decodeF32 base.pic.duration) fzero = true ∧
    flt (decodeF32 0#32) (decodeF32 base.pic.dayStart) = true ∧
    fgt (decodeF32 0x41C00000#32) (fadd (decodeF32 base.pic.dayStart) (decodeF32 base.pic.duration)) = true ∧
    (fle (decodeF32 base.pic.dayStart) (decodeF32 0x40C00000#32) = true ∧
      fle (decodeF32 0x40C00000#32) (decodeF32 base.pic.dayStart) = true) ∧
    (fle (decodeF32 0x80000000#32) (decodeF32 0#32) = true ∧ fle (decodeF32 0#32) (decodeF32 0x80000000#32) = true) ∧
    x 0x41A00000#32 = decodeF32 0x40C90FDB#32 ∧ x 0x41500000#32 = decodeF32 0x40490FDB#32 ∧
    isFinite (fmul (decodeF32 base.pic.amplitude) ftwo) = true :=
  ⟨by decide, by decide, by decide, by decide, by decide, by decide, by decide, by decide, by decide,
    by decide +kernel, by decide +kernel, by decide⟩

/-- SetpointIsIdempotent. -/
theorem witness_setpoint : ∃ t, exec .picSetpoint (spIn 0x41500000#32) = .next t := ⟨_, rfl⟩

/-- LuxLoadsOrKeepsTheStaleValue: COUNT = 1 and COUNT = 2; a luminosity that is no NaN. -/
theorem witness_lux :
    ((luxIn 0x10000#18).pic.luxIn.extractLsb' 16 2).toNat < 2 ∧
    2 ≤ ((luxIn 0x20000#18).pic.luxIn.extractLsb' 16 2).toNat ∧ luxScale base.cfg 0#16 ≠ .nan := by
  decide

/-- AntiWindupFreezesTheIntegrator: both directions, an advance, a frozen and a balanced step that is repeated. -/
theorem witness_windup :
    let r (s : State) : RegTerms :=
      regTerms s.cfg (decodeF32 s.pic.consigne) (decodeF32 s.pic.lux) (decodeF32 s.pic.integ)
    let up := regIn 0x447A0000#32 0#32 0#32
    let down := regIn 0#32 0x42C80000#32 0#32
    let advance := regIn 0x42C80000#32 0#32 0#32
    let even := regIn 0#32 0#32 0#32
    (∃ t, exec .picRegulate up = .next t) ∧
    (fgt (r up).di fzero = true ∧ fgt (r up).u (decodeF32 up.cfg.outMax) = true) ∧
    (flt (r down).di fzero = true ∧ flt (r down).u fzero = true) ∧
    seen (fun t => decide (t.pic.integ ≠ advance.pic.integ)) (exec .picRegulate advance) = some true ∧
    seen (fun t => (t.status.numErr, t.status.awFrozen)) (exec .picRegulate up) = some (false, true) ∧
    (flt (r even).di fzero = false ∧ fgt (r even).di fzero = false) ∧
    seen (fun t => t.status.numErr) (exec .picRegulate even) = some false :=
  ⟨⟨_, rfl⟩, by decide, by decide, by decide, by decide, by decide, by decide⟩

/-- DriveStaysInRange: a completed regulation and one that fails. -/
theorem witness_drive :
    base.cfg.outMax = 0x437F0000#32 ∧
    seen (fun t => t.status.numErr) (exec .picRegulate (regIn 0x42C80000#32 0#32 0#32)) = some false ∧
    seen (fun t => t.status.numErr) (exec .picRegulate (regIn 0x7F61B1E6#32 0#32 0x7F61B1E6#32)) = some true := by
  decide

/-- PwmMovesOnlyByRegulate and ControllerRegistersHaveOneWriter: a cycle that moves PIC_INTEG, PIC_OUTPUT and PIC_PWM, one
that moves PIC_CONSIGNE, one that moves PIC_LUX and PIC_LUXRAW. -/
theorem witness_writers :
    let a := regIn 0x42C80000#32 0#32 0#32
    (present a 0x10000000004#41).nextInput.rst = false ∧
    oneCycle a 0x10000000004#41 (fun t => decide (t.pic.integ ≠ a.pic.integ ∧ t.pic.output ≠ a.pic.output ∧
      t.pic.pwm ≠ a.pic.pwm)) = some true ∧
    oneCycle (spIn 0x41500000#32) 0x10000000002#41 (fun t => decide (t.pic.consigne ≠ 0x12345678#32)) = some true ∧
    oneCycle (luxIn 0x204B0#18) 0x10000000003#41 (fun t => decide (t.pic.lux ≠ 0#32 ∧ t.pic.luxRaw ≠ 0#16)) =
      some true := by
  decide

/-- RegulateIsDeterminedByItsOperands: two blocks that differ in the front end and in the last output. -/
theorem witness_determined :
    let s := regIn 0x42C80000#32 0#32 0#32
    let s' : State := { started 5 5 with pic := { s.pic with output := 0x3F800000#32 } }
    s.cfg = s'.cfg ∧ s.pic.consigne = s'.pic.consigne ∧ s.pic.lux = s'.pic.lux ∧ s.pic.integ = s'.pic.integ ∧
    s.pic.pwm = s'.pic.pwm ∧ (∃ t, exec .picRegulate s = .next t) ∧ ∃ t', exec .picRegulate s' = .next t' :=
  ⟨rfl, rfl, rfl, rfl, rfl, ⟨_, rfl⟩, ⟨_, rfl⟩⟩

/-- StepKeepsController: a regulation on a block that meets the invariant. -/
theorem witness_controller :
    let s := present (regIn 0x42C80000#32 0#32 0#32) 0x10000000004#41
    s.cfg = Config.defaultGains s.cfg.clkPerUs ∧ s.controllerOk ∧ ∃ t, step s = .next t :=
  ⟨rfl, by unfold State.controllerOk; decide, ⟨_, rfl⟩⟩

end Sys2Proof.Tests
end

section
/-! The low 31 bits of an encoding and the magnitudes they stand for (00_scope.md R11). Low bits are a binade `s` and a
significand `m`, `s * 2^23 + m`, and their magnitude is `m * 2^s`; the one spelling also covers subnormals (`s = 0`) and a
significand that has just been rounded up to 2^24. -/

namespace Sys2Proof.Machine

/-- The low bits of the infinities (00_scope.md R11): the least that are no finite encoding's. -/
def infBits : Nat := 0x7F800000

theorem exists_significand (b : Nat) : ∃ s m, b = s * 2 ^ 23 + m ∧ m < 2 ^ 24 ∧ (s = 0 ∨ 2 ^ 23 ≤ m) := by
  by_cases h : b < 2 ^ 23
  · exact ⟨0, b, by omega⟩
  · exact ⟨b / 2 ^ 23 - 1, 2 ^ 23 + b % 2 ^ 23, by omega⟩

theorem magOfBits_of_lt {b : Nat} (h : b < 2 ^ 23) : magOfBits b = b := if_pos h

theorem magOfBits_of_le {b : Nat} (h : 2 ^ 23 ≤ b) :
    magOfBits b = (2 ^ 23 + b % 2 ^ 23) * 2 ^ (b / 2 ^ 23 - 1) := if_neg (Nat.not_lt.2 h)

theorem magOfBits_significand {s m : Nat} (hm : m ≤ 2 ^ 24) (hs : s = 0 ∨ 2 ^ 23 ≤ m) :
    magOfBits (s * 2 ^ 23 + m) = m * 2 ^ s := by
  by_cases hlow : m < 2 ^ 23
  · obtain rfl : s = 0 := by omega
    simpa using magOfBits_of_lt hlow
  · rw [magOfBits_of_le (by omega)]
    by_cases hcarry : m = 2 ^ 24
    · have hmod : (s * 2 ^ 23 + m) % 2 ^ 23 = 0 := by omega
      have hdiv : (s * 2 ^ 23 + m) / 2 ^ 23 - 1 = s + 1 := by omega
      rw [hmod, hdiv, hcarry, pow_succ]
      ring
    · have hmod : (s * 2 ^ 23 + m) % 2 ^ 23 = m - 2 ^ 23 := by omega
      have hdiv : (s * 2 ^ 23 + m) / 2 ^ 23 - 1 = s := by omega
      rw [hmod, hdiv, Nat.add_sub_cancel' (by omega)]

theorem magOfBits_strictMono : StrictMono magOfBits := by
  refine strictMono_nat_of_lt_succ fun b => ?_
  obtain ⟨s, m, rfl, hm, hs⟩ := exists_significand b
  rw [Nat.add_assoc, magOfBits_significand hm.le hs, magOfBits_significand hm (by omega)]
  exact Nat.mul_lt_mul_of_pos_right (Nat.lt_succ_self m) (by positivity)

@[simp] theorem magOfBits_inj {b c : Nat} : magOfBits b = magOfBits c ↔ b = c := magOfBits_strictMono.injective.eq_iff

@[simp] theorem magOfBits_zero : magOfBits 0 = 0 := rfl

/-- The greatest finite magnitude. -/
theorem magOfBits_maxFinite : magOfBits (infBits - 1) = (2 ^ 24 - 1) * 2 ^ 253 :=
  magOfBits_significand (s := 253) (m := 2 ^ 24 - 1) (by norm_num) (by norm_num)

/-- The magnitude that the low bits of infinity would have, in the binade above the finite ones: 2^128. -/
theorem magOfBits_infBits : magOfBits infBits = 2 ^ 23 * 2 ^ 254 := by
  rw [show infBits = 254 * 2 ^ 23 + 2 ^ 23 from rfl, magOfBits_significand (by norm_num) (.inr le_rfl)]

/-- From the binade `s` on, every magnitude is a whole number of that binade's units. -/
theorem pow_dvd_magOfBits {s b : Nat} (h : s = 0 ∨ (s + 1) * 2 ^ 23 ≤ b) : 2 ^ s ∣ magOfBits b := by
  obtain rfl | h := h
  · simp
  · rw [magOfBits_of_le (by omega)]
    exact Dvd.dvd.mul_left (pow_dvd_pow 2 (by omega)) _

end Sys2Proof.Machine
end

section
/-! `roundedBits` is the nearest of all low bits, a tie going to the even ones (00_scope.md R12). The distances are those of
`num / den` to the magnitudes, times `den`. -/

namespace Sys2Proof.Machine

theorem div_le_roundTiesEven (num den : Nat) : num / den ≤ roundTiesEven num den := by
  unfold roundTiesEven
  dsimp only
  split <;> omega

theorem roundTiesEven_le (num den : Nat) : roundTiesEven num den ≤ num / den + 1 := by
  unfold roundTiesEven
  dsimp only
  split <;> omega

/-- Rounding to an integer moves by at most a half, and by exactly a half only to an even integer. -/
theorem roundTiesEven_within_half (num : Nat) {den : Nat} (hden : 0 < den) :
    2 * |(num : ℤ) - den * roundTiesEven num den| ≤ den ∧
    (2 * |(num : ℤ) - den * roundTiesEven num den| = den → roundTiesEven num den % 2 = 0) := by
  have hdiv : (num : ℤ) = den * ↑(num / den) + ↑(num % den) := by exact_mod_cast (Nat.div_add_mod num den).symm
  have hmod : num % den < den := Nat.mod_lt _ hden
  unfold roundTiesEven
  dsimp only
  generalize num / den = q, num % den = r at *
  split
  case isTrue h =>
    have hdist : |(num : ℤ) - den * ↑(q + 1)| = den - r := by
      rw [abs_of_nonpos] <;> push_cast <;> linarith
    rw [hdist]
    omega
  case isFalse h =>
    have hdist : |(num : ℤ) - den * q| = r := by rw [abs_of_nonneg] <;> linarith
    rw [hdist]
    omega

/-- No integer is nearer than the rounded one, and of two as near it is the even one. -/
theorem roundTiesEven_nearest (num : Nat) {den : Nat} (hden : 0 < den) (k : Nat) :
    |(num : ℤ) - den * roundTiesEven num den| ≤ |(num : ℤ) - den * k| ∧
    (k ≠ roundTiesEven num den → |(num : ℤ) - den * roundTiesEven num den| = |(num : ℤ) - den * k| →
      roundTiesEven num den % 2 = 0) := by
  obtain ⟨hhalf, htie⟩ := roundTiesEven_within_half num hden
  generalize roundTiesEven num den = m at *
  by_cases hk : k = m
  · subst hk
    exact ⟨le_rfl, fun h => absurd rfl h⟩
  · have hgap : (den : ℤ) ≤ |(den : ℤ) * ((m : ℤ) - k)| := by
      rw [abs_mul, Nat.abs_cast]
      exact le_mul_of_one_le_right (by positivity) (Int.one_le_abs (by omega))
    have htri : |(den : ℤ) * ((m : ℤ) - k)| ≤ |(num : ℤ) - den * k| + |(num : ℤ) - den * m| := by
      calc |(den : ℤ) * ((m : ℤ) - k)| = |((num : ℤ) - den * k) - ((num : ℤ) - den * m)| := by ring_nf
        _ ≤ _ := abs_sub _ _
    exact ⟨by linarith, fun _ heq => htie (by linarith)⟩

/-- The low bits of the rounded value in a format without a greatest exponent. -/
def unboundedBits (num den : Nat) : Nat :=
  dropBits num den * 2 ^ 23 + roundTiesEven num (den * 2 ^ dropBits num den)

theorem roundedBits_eq_min (num den : Nat) : roundedBits num den = min (unboundedBits num den) infBits := rfl

/-- Above the first binade the quotient has its leading bit in the significand's. -/
theorem le_div_pow_dropBits (num den : Nat) :
    dropBits num den = 0 ∨ 2 ^ 23 ≤ num / (den * 2 ^ dropBits num den) := by
  unfold dropBits
  by_cases h : Nat.log2 (num / den) ≤ 23
  · exact .inl (by omega)
  · have hpos : num / den ≠ 0 := by rintro h0; simp [h0] at h
    right
    rw [← Nat.div_div_eq_div_mul, Nat.le_div_iff_mul_le (by positivity), ← pow_add,
      Nat.add_sub_cancel' (by omega)]
    exact Nat.log2_self_le hpos

theorem div_pow_dropBits_lt (num den : Nat) : num / (den * 2 ^ dropBits num den) < 2 ^ 24 := by
  unfold dropBits
  rw [← Nat.div_div_eq_div_mul, Nat.div_lt_iff_lt_mul (by positivity), ← pow_add]
  exact Nat.lt_log2_self.trans_le (Nat.pow_le_pow_right (by norm_num) (by omega))

theorem magOfBits_unboundedBits (num den : Nat) :
    magOfBits (unboundedBits num den) =
      roundTiesEven num (den * 2 ^ dropBits num den) * 2 ^ dropBits num den := by
  have hlow := div_le_roundTiesEven num (den * 2 ^ dropBits num den)
  have hup := roundTiesEven_le num (den * 2 ^ dropBits num den)
  have hlt := div_pow_dropBits_lt num den
  have hle := le_div_pow_dropBits num den
  exact magOfBits_significand (by omega) (by omega)

/-- No low bits, finite or not, are nearer than the rounded ones, and of two as near those are even. Magnitudes from the
rounded binade up are whole numbers of its units; those below it lie further away than its least. -/
theorem unboundedBits_nearest (num : Nat) {den : Nat} (hden : 0 < den) (c : Nat) :
    |(num : ℤ) - den * magOfBits (unboundedBits num den)| ≤ |(num : ℤ) - den * magOfBits c| ∧
    (c ≠ unboundedBits num den →
      |(num : ℤ) - den * magOfBits (unboundedBits num den)| = |(num : ℤ) - den * magOfBits c| →
      unboundedBits num den % 2 = 0) := by
  have hmag := magOfBits_unboundedBits num den
  have hnear := roundTiesEven_nearest num (den := den * 2 ^ dropBits num den) (by positivity)
  have hle := le_div_pow_dropBits num den
  have hbits : unboundedBits num den % 2 = roundTiesEven num (den * 2 ^ dropBits num den) % 2 := by
    unfold unboundedBits; omega
  generalize dropBits num den = s at *
  generalize roundTiesEven num (den * 2 ^ s) = m at *
  have hunit (k : ℕ) : ((den * 2 ^ s : ℕ) : ℤ) * k = den * ((k * 2 ^ s : ℕ) : ℤ) := by push_cast; ring
  simp only [hunit, ← hmag, ← hbits] at hnear
  by_cases hc : s = 0 ∨ (s + 1) * 2 ^ 23 ≤ c
  · obtain ⟨k, hk⟩ := pow_dvd_magOfBits hc
    rw [mul_comm] at hk
    rw [hk]
    refine ⟨(hnear k).1, fun hne => (hnear k).2 ?_⟩
    rintro rfl
    exact hne (magOfBits_inj.1 (hk.trans hmag.symm))
  · have hbelow : magOfBits c < 2 ^ 23 * 2 ^ s := by
      rw [← magOfBits_significand (by norm_num) (.inr le_rfl)]
      exact magOfBits_strictMono (by omega)
    have habove : 2 ^ 23 * 2 ^ s * den ≤ num := by
      have := (Nat.le_div_iff_mul_le (by positivity)).1 (hle.resolve_left (by tauto))
      linarith
    have hlt : |(num : ℤ) - den * ((2 ^ 23 * 2 ^ s : ℕ) : ℤ)| < |(num : ℤ) - den * magOfBits c| := by
      have h1 : (den : ℤ) * ((2 ^ 23 * 2 ^ s : ℕ) : ℤ) ≤ num := by rw [mul_comm]; exact_mod_cast habove
      have h2 : (den : ℤ) * magOfBits c < den * ((2 ^ 23 * 2 ^ s : ℕ) : ℤ) := by
        exact_mod_cast Nat.mul_lt_mul_of_pos_left hbelow hden
      rw [abs_of_nonneg (by linarith), abs_of_pos (by linarith)]
      linarith
    have hstrict := (hnear (2 ^ 23)).1.trans_lt hlt
    exact ⟨hstrict.le, fun _ heq => absurd heq hstrict.ne⟩

/-- Of two numbers the lesser is as near as the greater exactly up to their midpoint. -/
theorem abs_sub_le_abs_sub_iff_of_lt {x p q : ℤ} (h : p < q) : |x - p| ≤ |x - q| ↔ 2 * x ≤ p + q := by
  rw [← sq_le_sq]
  constructor <;> intro <;> nlinarith

/-- Of two numbers the greater is as near as the lesser exactly from their midpoint on. -/
theorem abs_sub_le_abs_sub_iff_of_gt {x p q : ℤ} (h : p < q) : |x - q| ≤ |x - p| ↔ p + q ≤ 2 * x := by
  rw [← sq_le_sq]
  constructor <;> intro <;> nlinarith

/-- The bound of overflow is the tie between the greatest finite magnitude, which is odd, and 2^128 (00_scope.md R12). -/
theorem infBits_le_unboundedBits_iff (num : Nat) {den : Nat} (hden : 0 < den) :
    infBits ≤ unboundedBits num den ↔ (2 ^ 25 - 1) * 2 ^ 252 * den ≤ num := by
  have hmono : StrictMono fun c => (den : ℤ) * magOfBits c :=
    (Nat.strictMono_cast.comp magOfBits_strictMono).const_mul (by exact_mod_cast hden)
  have hmid : (den : ℤ) * magOfBits (infBits - 1) + den * magOfBits infBits =
      2 * ((2 ^ 25 - 1) * 2 ^ 252 * den : ℕ) := by
    rw [magOfBits_maxFinite, magOfBits_infBits]
    push_cast
    ring
  have hnear := unboundedBits_nearest num hden
  generalize unboundedBits num den = b at *
  generalize (2 ^ 25 - 1) * 2 ^ 252 * den = bound at *
  constructor
  · intro hb
    have hlt : (den : ℤ) * magOfBits (infBits - 1) < den * magOfBits b := hmono (lt_of_lt_of_le (by decide) hb)
    have hle : (den : ℤ) * magOfBits infBits ≤ den * magOfBits b := hmono.monotone hb
    have hup := (abs_sub_le_abs_sub_iff_of_gt hlt).1 (hnear (infBits - 1)).1
    omega
  · intro hnum
    by_contra hb
    have hlt : (den : ℤ) * magOfBits b < den * magOfBits infBits := hmono (not_le.1 hb)
    have hle : (den : ℤ) * magOfBits b ≤ den * magOfBits (infBits - 1) :=
      hmono.monotone (Nat.le_sub_one_of_lt (not_le.1 hb))
    have hlow := (abs_sub_le_abs_sub_iff_of_lt hlt).1 (hnear infBits).1
    obtain rfl : b = infBits - 1 := hmono.injective (show (den : ℤ) * _ = den * _ by omega)
    have htie := (abs_sub_le_abs_sub_iff_of_gt (x := num) hlt).2 (by omega)
    exact absurd ((hnear infBits).2 (by decide) ((hnear infBits).1.antisymm htie)) (by decide)

theorem roundedBits_le (num den : Nat) : roundedBits num den ≤ infBits := min_le_right _ _

theorem roundedBits_eq_infBits_iff (num : Nat) {den : Nat} (hden : 0 < den) :
    roundedBits num den = infBits ↔ (2 ^ 25 - 1) * 2 ^ 252 * den ≤ num := by
  rw [roundedBits_eq_min, min_eq_right_iff, infBits_le_unboundedBits_iff num hden]

/-- Below the bound of overflow the rounded bits are the nearest. -/
theorem roundedBits_nearest (num : Nat) {den : Nat} (hden : 0 < den) (hfin : roundedBits num den < infBits) (c : Nat) :
    |(num : ℤ) - den * magOfBits (roundedBits num den)| ≤ |(num : ℤ) - den * magOfBits c| ∧
    (c ≠ roundedBits num den →
      |(num : ℤ) - den * magOfBits (roundedBits num den)| = |(num : ℤ) - den * magOfBits c| →
      roundedBits num den % 2 = 0) := by
  have heq : roundedBits num den = unboundedBits num den := by rw [roundedBits_eq_min] at hfin ⊢; omega
  rw [heq]
  exact unboundedBits_nearest num hden c

/-- A magnitude that has low bits is rounded to them. -/
theorem roundedBits_magOfBits {b : Nat} (hb : b < infBits) : roundedBits (magOfBits b) 1 = b := by
  have hnear := (unboundedBits_nearest (magOfBits b) one_pos b).1
  rw [Nat.cast_one, one_mul, one_mul, sub_self, abs_zero, abs_nonpos_iff, sub_eq_zero, Nat.cast_inj,
    magOfBits_inj] at hnear
  rw [roundedBits_eq_min, ← hnear]
  exact min_eq_left hb.le

end Sys2Proof.Machine
end

section
/-! A binary32 word is the packing of its sign bit and its low 31 bits; decoding and encoding in those terms (00_scope.md R11). -/

namespace Sys2Proof.Machine

theorem packF32_toNat (neg : Bool) {b : Nat} (hb : b < 2 ^ 31) : (packF32 neg b).toNat = cond neg (2 ^ 31) 0 + b := by
  rw [packF32, BitVec.toNat_ofNat, Nat.mod_eq_of_lt]
  cases neg <;> simp only [cond_true, cond_false] <;> omega

/-- The low 31 bits of a packed word. -/
theorem packF32_low (neg : Bool) {b : Nat} (hb : b < 2 ^ 31) : (packF32 neg b).toNat % 2 ^ 31 = b := by
  rw [packF32_toNat neg hb]
  cases neg <;> simp only [cond_true, cond_false] <;> omega

/-- The sign bit of a packed word. -/
theorem packF32_sign (neg : Bool) {b : Nat} (hb : b < 2 ^ 31) : (packF32 neg b).getLsbD 31 = neg := by
  rw [BitVec.getLsbD, packF32_toNat neg hb, Nat.testBit_eq_decide_div_mod_eq]
  cases neg <;> simp only [cond_true, cond_false, decide_eq_true_eq, decide_eq_false_iff_not] <;> omega

/-- The least significant bit of a packed word is the significand's. -/
theorem packF32_lsb (neg : Bool) {b : Nat} (hb : b < 2 ^ 31) : (packF32 neg b).getLsbD 0 = decide (b % 2 = 1) := by
  rw [BitVec.getLsbD, packF32_toNat neg hb, Nat.testBit_eq_decide_div_mod_eq]
  cases neg <;> simp only [cond_true, cond_false, decide_eq_decide] <;> omega

theorem packF32_exponent (neg : Bool) {b : Nat} (hb : b < 2 ^ 31) :
    ((packF32 neg b).extractLsb' 23 8).toNat = b / 2 ^ 23 := by
  rw [BitVec.extractLsb'_toNat, packF32_toNat neg hb, Nat.shiftRight_eq_div_pow]
  cases neg <;> simp only [cond_true, cond_false] <;> omega

theorem packF32_fraction (neg : Bool) {b : Nat} (hb : b < 2 ^ 31) :
    ((packF32 neg b).extractLsb' 0 23).toNat = b % 2 ^ 23 := by
  rw [BitVec.extractLsb'_toNat, packF32_toNat neg hb, Nat.shiftRight_zero]
  cases neg <;> simp only [cond_true, cond_false] <;> omega

/-- Every word is the packing of a sign and low bits. -/
theorem exists_packF32 (w : Word) : ∃ neg b, b < 2 ^ 31 ∧ w = packF32 neg b := by
  refine ⟨decide (2 ^ 31 ≤ w.toNat), w.toNat % 2 ^ 31, Nat.mod_lt _ (by positivity), BitVec.eq_of_toNat_eq ?_⟩
  have hw := w.isLt
  rw [packF32_toNat _ (Nat.mod_lt _ (by positivity))]
  by_cases h : 2 ^ 31 ≤ w.toNat <;> simp only [h, decide_true, decide_false, cond_true, cond_false] <;> omega

theorem infBits_lt : infBits < 2 ^ 31 := by decide

theorem decodeF32_packF32 (neg : Bool) {b : Nat} (hb : b < 2 ^ 31) : decodeF32 (packF32 neg b) = valueOfBits neg b := by
  rw [decodeF32, packF32_sign neg hb, packF32_low neg hb]

theorem valueOfBits_of_lt (neg : Bool) {b : Nat} (hb : b < infBits) : valueOfBits neg b = .fin neg (magOfBits b) :=
  if_pos hb

@[simp] theorem valueOfBits_infBits (neg : Bool) : valueOfBits neg infBits = .inf neg := rfl

theorem valueOfBits_of_gt (neg : Bool) {b : Nat} (hb : infBits < b) : valueOfBits neg b = .nan :=
  (if_neg (not_lt.2 hb.le)).trans (if_neg hb.ne')

@[simp] theorem isFinite_valueOfBits (neg : Bool) (b : Nat) : isFinite (valueOfBits neg b) = true ↔ b < infBits := by
  rcases lt_trichotomy b infBits with hb | rfl | hb
  · simp [valueOfBits_of_lt neg hb, isFinite, hb]
  · simp [isFinite]
  · simp [valueOfBits_of_gt neg hb, isFinite, hb.le]

/-- A word that is no NaN is the image of its value, bit for bit. -/
theorem encodeF32_decodeF32 (w : Word) (hw : decodeF32 w ≠ .nan) : encodeF32 (decodeF32 w) = w := by
  obtain ⟨neg, b, hb, rfl⟩ := exists_packF32 w
  rw [decodeF32_packF32 neg hb] at hw ⊢
  rcases lt_trichotomy b infBits with hfin | rfl | hnan
  · rw [valueOfBits_of_lt neg hfin, encodeF32, imageOf, roundedBits_magOfBits hfin]
  · rfl
  · exact absurd (valueOfBits_of_gt neg hnan) hw

/-- Decoding takes the image of a word's value back to that value, a NaN's included. -/
theorem decodeF32_encodeF32_decodeF32 (w : Word) : decodeF32 (encodeF32 (decodeF32 w)) = decodeF32 w := by
  by_cases hw : decodeF32 w = .nan
  · rw [hw, encodeF32, imageOf_nan, decodeF32_nanWord]
  · rw [encodeF32_decodeF32 w hw]

/-- The images of a NaN, as its sign and payload vary, are the NaN encodings (log 7). -/
theorem decodeF32_eq_nan_iff (w : Word) : decodeF32 w = .nan ↔ ∃ choice, imageOf choice .nan = w := by
  constructor
  · intro hw
    exact ⟨w, by rw [imageOf_nan, nanWord, if_pos hw]⟩
  · rintro ⟨choice, rfl⟩
    simp

/-- The sign of a real number as a factor. -/
def signFactor (neg : Bool) : ℚ := if neg then -1 else 1

@[simp] theorem signFactor_true : signFactor true = -1 := rfl
@[simp] theorem signFactor_false : signFactor false = 1 := rfl

theorem f32Val_fin (neg : Bool) (mag : Nat) : f32Val (.fin neg mag) = signFactor neg * (mag / 2 ^ 149) := by
  cases neg <;> simp [f32Val, signedMag, neg_div]

/-- The magnitude of low bits by their exponent and fraction fields (00_scope.md R11). -/
theorem magOfBits_of_fields (b : Nat) :
    (magOfBits b : ℚ) / 2 ^ 149 =
      if b / 2 ^ 23 = 0 then ((b % 2 ^ 23 : ℕ) : ℚ) * 2 ^ (-149 : ℤ)
      else (1 + ((b % 2 ^ 23 : ℕ) : ℚ) / 2 ^ 23) * 2 ^ (((b / 2 ^ 23 : ℕ) : ℤ) - 127) := by
  split
  case isTrue he =>
    have hb : b < 2 ^ 23 := by omega
    rw [magOfBits_of_lt hb, Nat.mod_eq_of_lt hb, zpow_neg]
    rfl
  case isFalse he =>
    rw [magOfBits_of_le (by omega)]
    obtain ⟨s, hs⟩ := Nat.exists_eq_succ_of_ne_zero he
    have hpow : (2 : ℚ) ^ (((s + 1 : ℕ) : ℤ) - 127) = 2 ^ s * 2 ^ 23 / 2 ^ 149 := by
      rw [show ((s + 1 : ℕ) : ℤ) - 127 = s + 23 - 149 by push_cast; ring, zpow_sub₀ two_ne_zero,
        zpow_add₀ two_ne_zero, zpow_natCast]
      norm_cast
    rw [hs, Nat.succ_eq_add_one, hpow, Nat.add_sub_cancel]
    push_cast
    ring

/-- The value of a packed word (00_scope.md R11). -/
theorem decodeF32_packF32_fields (neg : Bool) {b : Nat} (hb : b < 2 ^ 31) :
    (b / 2 ^ 23 = 255 → decodeF32 (packF32 neg b) = if b % 2 ^ 23 = 0 then .inf neg else .nan) ∧
    (b / 2 ^ 23 < 255 → decodeF32 (packF32 neg b) = .fin neg (magOfBits b)) := by
  have hinf : infBits = 255 * 2 ^ 23 := rfl
  rw [decodeF32_packF32 neg hb]
  refine ⟨fun he => ?_, fun he => valueOfBits_of_lt neg (by omega)⟩
  split
  case isTrue hf => rw [show b = infBits by omega, valueOfBits_infBits]
  case isFalse hf => exact valueOfBits_of_gt neg (by omega)

/-- Settles O44: each word is the packing of a sign and low bits, whose fields give the value; the image of a value is its
word because a magnitude with an encoding is rounded to itself. -/
theorem encodingsRoundTrip : Obligations.EncodingsRoundTrip := by
  refine ⟨fun w => ?_, encodeF32_decodeF32, decodeF32_encodeF32_decodeF32, decodeF32_eq_nan_iff⟩
  obtain ⟨neg, b, hb, rfl⟩ := exists_packF32 w
  obtain ⟨hspecial, hfinite⟩ := decodeF32_packF32_fields neg hb
  dsimp only
  rw [packF32_exponent neg hb, packF32_fraction neg hb, packF32_sign neg hb]
  refine ⟨hspecial, fun he => ?_⟩
  rw [hfinite he, f32Val_fin, magOfBits_of_fields]
  exact ⟨rfl, rfl, rfl⟩

end Sys2Proof.Machine
end

section
/-! `rnd32` of a ratio is correctly rounded (00_scope.md R12): the distances of the low bits, carried over to signed rationals. -/

namespace Sys2Proof.Machine

theorem abs_signFactor_mul (neg : Bool) (x : ℚ) : |signFactor neg * x| = |x| := by cases neg <;> simp

theorem signFactor_mul_eq_zero {neg : Bool} {x : ℚ} : signFactor neg * x = 0 ↔ x = 0 := by cases neg <;> simp

theorem signFactor_mul_neg_iff {neg : Bool} {x : ℚ} (hx : 0 < x) : signFactor neg * x < 0 ↔ neg = true := by
  cases neg <;> simp [hx, hx.le]

/-- The distance of two signed magnitudes: that of the magnitudes for one sign, their sum for opposite signs. -/
theorem abs_signFactor_mul_sub (n m : Bool) {x y : ℚ} (hx : 0 ≤ x) (hy : 0 ≤ y) :
    |signFactor n * x - signFactor m * y| = if n = m then |x - y| else x + y := by
  cases n <;> cases m
  case false.false => simp
  case false.true => simpa using abs_of_nonneg (add_nonneg hx hy)
  case true.false =>
    rw [← abs_neg]
    simpa [add_comm] using abs_of_nonneg (add_nonneg hx hy)
  case true.true => simpa [neg_add_eq_sub] using abs_sub_comm y x

theorem abs_ratio_sub (num m : Nat) {den : Nat} (hden : 0 < den) :
    |(num : ℚ) / den - m| = ((|(num : ℤ) - den * m| : ℤ) : ℚ) / den := by
  have hpos : (0 : ℚ) < den := by exact_mod_cast hden
  have hsub : (num : ℚ) / den - m = (num - den * m) / den := by field_simp
  rw [hsub, abs_div, abs_of_pos hpos]
  push_cast
  rfl

/-- Below the bound of overflow the rounded bits are the nearest to the ratio itself. -/
theorem roundedBits_nearest_ratio (num : Nat) {den : Nat} (hden : 0 < den) (hfin : roundedBits num den < infBits)
    (c : Nat) :
    |(num : ℚ) / den - magOfBits (roundedBits num den)| ≤ |(num : ℚ) / den - magOfBits c| ∧
    (c ≠ roundedBits num den →
      |(num : ℚ) / den - magOfBits (roundedBits num den)| = |(num : ℚ) / den - magOfBits c| →
      roundedBits num den % 2 = 0) := by
  have hpos : (0 : ℚ) < den := by exact_mod_cast hden
  rw [abs_ratio_sub _ _ hden, abs_ratio_sub _ _ hden, div_le_div_iff_of_pos_right hpos, div_left_inj' hpos.ne',
    Int.cast_le, Int.cast_inj]
  exact roundedBits_nearest num hden hfin c

/-- A finite value of the other sign is never nearer than the rounded one; it is as near only where the rounded bits are
even. -/
theorem roundedBits_nearest_opposite (num : Nat) {den : Nat} (hden : 0 < den) (hfin : roundedBits num den < infBits)
    (c : Nat) :
    |(num : ℚ) / den - magOfBits (roundedBits num den)| ≤ (num : ℚ) / den + magOfBits c ∧
    (|(num : ℚ) / den - magOfBits (roundedBits num den)| = (num : ℚ) / den + magOfBits c →
      roundedBits num den % 2 = 0) := by
  have hx : (0 : ℚ) ≤ num / den := by positivity
  have hc : (0 : ℚ) ≤ magOfBits c := by positivity
  obtain ⟨hzero, htie⟩ := roundedBits_nearest_ratio num hden hfin 0
  rw [magOfBits_zero, Nat.cast_zero, sub_zero, abs_of_nonneg hx] at hzero htie
  refine ⟨by linarith, fun heq => ?_⟩
  by_cases hb : 0 = roundedBits num den
  · rw [← hb]
  · exact htie hb (by linarith)

/-- Overflow in terms of the real value: from 2^128 - 2^103 on (00_scope.md R12). -/
theorem roundedBits_eq_infBits_iff_ratio (num : Nat) {den : Nat} (hden : 0 < den) :
    roundedBits num den = infBits ↔ (2 : ℚ) ^ 128 - 2 ^ 103 ≤ (num : ℚ) / den / 2 ^ 149 := by
  have hpos : (0 : ℚ) < den := by exact_mod_cast hden
  have hbound : ((2 : ℚ) ^ 128 - 2 ^ 103) * 2 ^ 149 = (2 ^ 25 - 1) * 2 ^ 252 := by norm_num
  rw [roundedBits_eq_infBits_iff num hden, le_div_iff₀ (by positivity), le_div_iff₀ hpos, hbound,
    ← Nat.cast_le (α := ℚ)]
  norm_num

/-- The distance of a signed number of units to a finite value. -/
theorem abs_sub_f32Val_fin (neg n : Bool) {x : ℚ} (hx : 0 ≤ x) (mag : Nat) :
    |signFactor neg * (x / 2 ^ 149) - f32Val (.fin n mag)| = (if neg = n then |x - mag| else x + mag) / 2 ^ 149 := by
  rw [f32Val_fin, ← abs_signFactor_mul_sub neg n hx (by positivity), ← mul_div_assoc, ← mul_div_assoc, ← sub_div,
    abs_div, abs_of_pos (by positivity : (0 : ℚ) < 2 ^ 149)]

/-- Below the bound of overflow no finite encoding is nearer than the rounded one, and of two as near that one is even. -/
theorem rnd32_nearest (neg : Bool) (num : Nat) {den : Nat} (hden : 0 < den) (hfin : roundedBits num den < infBits)
    (v : Word) (hv : isFinite (decodeF32 v) = true) :
    |signFactor neg * ((num : ℚ) / den / 2 ^ 149) - f32Val (rnd32 neg num den)| ≤
      |signFactor neg * ((num : ℚ) / den / 2 ^ 149) - f32Val (decodeF32 v)| ∧
    (f32Val (decodeF32 v) ≠ f32Val (rnd32 neg num den) →
      |signFactor neg * ((num : ℚ) / den / 2 ^ 149) - f32Val (rnd32 neg num den)| =
        |signFactor neg * ((num : ℚ) / den / 2 ^ 149) - f32Val (decodeF32 v)| →
      roundedBits num den % 2 = 0) := by
  obtain ⟨n, c, hc, rfl⟩ := exists_packF32 v
  rw [decodeF32_packF32 n hc] at hv ⊢
  rw [isFinite_valueOfBits] at hv
  have hx : (0 : ℚ) ≤ (num : ℚ) / den := by positivity
  have hunit : (0 : ℚ) < 2 ^ 149 := by positivity
  rw [rnd32, valueOfBits_of_lt n hv, valueOfBits_of_lt neg hfin, abs_sub_f32Val_fin _ _ hx, abs_sub_f32Val_fin _ _ hx,
    if_pos rfl, div_le_div_iff_of_pos_right hunit, div_left_inj' hunit.ne']
  split
  case isTrue hsame =>
    obtain ⟨hle, htie⟩ := roundedBits_nearest_ratio num hden hfin c
    refine ⟨hle, fun hne => htie ?_⟩
    rintro rfl
    exact hne (by rw [hsame])
  case isFalse =>
    obtain ⟨hle, htie⟩ := roundedBits_nearest_opposite num hden hfin c
    exact ⟨hle, fun _ => htie⟩

/-- `rnd32` of a ratio of either sign is correctly rounded; a ratio of 0 keeps the sign. -/
theorem correctlyRounded_rnd32 (neg : Bool) (num : Nat) {den : Nat} (hden : 0 < den) :
    CorrectlyRounded (signFactor neg * ((num : ℚ) / den / 2 ^ 149)) neg (rnd32 neg num den) := by
  have hx : (0 : ℚ) ≤ (num : ℚ) / den / 2 ^ 149 := by positivity
  have hinf := roundedBits_eq_infBits_iff_ratio num hden
  rw [CorrectlyRounded, abs_signFactor_mul, abs_of_nonneg hx]
  constructor
  · intro hover
    have hpos : (0 : ℚ) < (num : ℚ) / den / 2 ^ 149 := lt_of_lt_of_le (by norm_num) hover
    simp [rnd32, hinf.2 hover, signFactor_mul_neg_iff hpos]
  · intro hunder
    have hfin : roundedBits num den < infBits :=
      lt_of_le_of_ne (roundedBits_le num den) fun h => absurd (hinf.1 h) (not_le.2 hunder)
    have hlt : roundedBits num den < 2 ^ 31 := hfin.trans infBits_lt
    refine ⟨packF32 neg (roundedBits num den), decodeF32_packF32 neg hlt, (isFinite_valueOfBits _ _).2 hfin, ?_,
      fun v hv => ?_⟩
    · rw [packF32_sign neg hlt]
      split
      case isTrue => rfl
      case isFalse hne =>
        simp [signFactor_mul_neg_iff (lt_of_le_of_ne hx (Ne.symm (mt signFactor_mul_eq_zero.2 hne)))]
    · obtain ⟨hle, htie⟩ := rnd32_nearest neg num hden hfin v hv
      exact ⟨hle, fun hne heq => by rw [packF32_lsb neg hlt, htie hne heq]; rfl⟩

/-- Settles O43: `rnd32` and its low bits by `correctlyRounded_rnd32` and `roundedBits_nearest`, whose bound of overflow is
the one of R12 in units of 2^-149. -/
theorem roundingIsTiesToEven : Obligations.RoundingIsTiesToEven := by
  refine ⟨fun neg num den hden => correctlyRounded_rnd32 neg num hden, fun num den hden => ?_, fun neg c hc => ?_⟩
  · have hbound : (2 ^ 277 - 2 ^ 252 : ℕ) = (2 ^ 25 - 1) * 2 ^ 252 := by
      rw [Nat.sub_mul, ← pow_add, one_mul]
    refine ⟨roundedBits_le num den, ?_, fun hfin c _ => roundedBits_nearest num hden hfin c⟩
    rw [hbound]
    exact roundedBits_eq_infBits_iff num hden
  · rw [decodeF32_packF32 neg (lt_trans hc infBits_lt)]
    exact valueOfBits_of_lt neg hc

end Sys2Proof.Machine
end

section
/-! The binary32 operations are the exact result rounded once (00_scope.md R12); the comparisons are the order of the values. -/

namespace Sys2Proof.Machine

theorem exists_fin_of_isFinite {x : F32} (hx : isFinite x = true) : ∃ neg mag, x = .fin neg mag := by
  cases x with
  | nan => cases hx
  | inf neg => cases hx
  | fin neg mag => exact ⟨neg, mag, rfl⟩

/-- The sign of a result that is not zero does not depend on the sign an exact zero would have. -/
theorem correctlyRounded_of_ne_zero {q : ℚ} {z z' : Bool} {r : F32} (hq : q ≠ 0) (h : CorrectlyRounded q z r) :
    CorrectlyRounded q z' r := by
  simpa [CorrectlyRounded, hq] using h

theorem f32Val_eq_zero_iff (neg : Bool) (mag : Nat) : f32Val (.fin neg mag) = 0 ↔ mag = 0 := by
  rw [f32Val_fin, signFactor_mul_eq_zero]
  simp

theorem signFactor_bne (n m : Bool) : signFactor (n != m) = signFactor n * signFactor m := by
  cases n <;> cases m <;> simp

theorem signFactor_inv (neg : Bool) : (signFactor neg)⁻¹ = signFactor neg := by cases neg <;> simp

theorem f32Val_fneg (x : F32) : f32Val (fneg x) = -f32Val x := by
  cases x with
  | nan => simp [fneg, f32Val]
  | inf neg => simp [fneg, f32Val]
  | fin neg mag => cases neg <;> simp [fneg, f32Val_fin]

theorem isFinite_fneg (x : F32) : isFinite (fneg x) = isFinite x := by cases x <;> rfl

theorem f32IsNeg_fneg {x : F32} (hx : isFinite x = true) : f32IsNeg (fneg x) = !f32IsNeg x := by
  obtain ⟨neg, mag, rfl⟩ := exists_fin_of_isFinite hx
  rfl

theorem signFactor_mul_natAbs (x : ℤ) : signFactor (decide (x < 0)) * (x.natAbs : ℚ) = x := by
  by_cases hx : x < 0
  · simp [hx, Nat.cast_natAbs, abs_of_neg hx]
  · simp [hx, Nat.cast_natAbs, abs_of_nonneg (not_lt.1 hx)]

theorem rnd32_zero (neg : Bool) : rnd32 neg 0 1 = .fin neg 0 := rfl

/-- An integer number of units is rounded once; an exact zero has the given sign. -/
theorem correctlyRounded_rndInt (zeroNeg : Bool) (x : ℤ) :
    CorrectlyRounded ((x : ℚ) / 2 ^ 149) zeroNeg (rndInt zeroNeg x) := by
  unfold rndInt
  split
  case isTrue hx =>
    subst hx
    simpa [rnd32_zero] using correctlyRounded_rnd32 zeroNeg 0 one_pos
  case isFalse hx =>
    have h := correctlyRounded_rnd32 (decide (x < 0)) x.natAbs one_pos
    rw [Nat.cast_one, div_one, ← mul_div_assoc, signFactor_mul_natAbs] at h
    exact correctlyRounded_of_ne_zero (by positivity) h

theorem correctlyRounded_fadd {x y : F32} (hx : isFinite x = true) (hy : isFinite y = true) :
    CorrectlyRounded (f32Val x + f32Val y) (f32IsNeg x && f32IsNeg y) (fadd x y) := by
  obtain ⟨n, a, rfl⟩ := exists_fin_of_isFinite hx
  obtain ⟨m, b, rfl⟩ := exists_fin_of_isFinite hy
  have h := correctlyRounded_rndInt (n && m) (signedMag n a + signedMag m b)
  rwa [Int.cast_add, add_div] at h

theorem correctlyRounded_fsub {x y : F32} (hx : isFinite x = true) (hy : isFinite y = true) :
    CorrectlyRounded (f32Val x - f32Val y) (f32IsNeg x && !f32IsNeg y) (fsub x y) := by
  have h := correctlyRounded_fadd hx ((isFinite_fneg y).trans hy)
  rwa [f32Val_fneg, f32IsNeg_fneg hy, ← sub_eq_add_neg] at h

theorem correctlyRounded_fmul {x y : F32} (hx : isFinite x = true) (hy : isFinite y = true) :
    CorrectlyRounded (f32Val x * f32Val y) (f32IsNeg x != f32IsNeg y) (fmul x y) := by
  obtain ⟨n, a, rfl⟩ := exists_fin_of_isFinite hx
  obtain ⟨m, b, rfl⟩ := exists_fin_of_isFinite hy
  have hval : f32Val (.fin n a) * f32Val (.fin m b) =
      signFactor (n != m) * (((a * b : ℕ) : ℚ) / ((2 ^ 149 : ℕ) : ℚ) / 2 ^ 149) := by
    rw [f32Val_fin, f32Val_fin, signFactor_bne]
    push_cast
    ring
  rw [hval]
  exact correctlyRounded_rnd32 (n != m) (a * b) (by positivity)

theorem correctlyRounded_fdiv {x y : F32} (hx : isFinite x = true) (hy : isFinite y = true) (hne : f32Val y ≠ 0) :
    CorrectlyRounded (f32Val x / f32Val y) (f32IsNeg x != f32IsNeg y) (fdiv x y) := by
  obtain ⟨n, a, rfl⟩ := exists_fin_of_isFinite hx
  obtain ⟨m, b, rfl⟩ := exists_fin_of_isFinite hy
  have hb : b ≠ 0 := mt (f32Val_eq_zero_iff m b).2 hne
  have hval : f32Val (.fin n a) / f32Val (.fin m b) =
      signFactor (n != m) * (((a * 2 ^ 149 : ℕ) : ℚ) / b / 2 ^ 149) := by
    rw [f32Val_fin, f32Val_fin, signFactor_bne, div_eq_mul_inv, mul_inv, signFactor_inv]
    push_cast
    rw [inv_div]
    ring
  have hdiv : fdiv (.fin n a) (.fin m b) = rnd32 (n != m) (a * 2 ^ 149) b := if_neg hb
  rw [hval, hdiv]
  exact correctlyRounded_rnd32 (n != m) (a * 2 ^ 149) (Nat.pos_of_ne_zero hb)

theorem fdiv_of_zero {x y : F32} (hx : isFinite x = true) (hy : isFinite y = true) (hzero : f32Val y = 0) :
    fdiv x y = if f32Val x = 0 then .nan else .inf (f32IsNeg x != f32IsNeg y) := by
  obtain ⟨n, a, rfl⟩ := exists_fin_of_isFinite hx
  obtain ⟨m, b, rfl⟩ := exists_fin_of_isFinite hy
  rw [f32Val_eq_zero_iff] at hzero
  simp only [f32Val_eq_zero_iff]
  exact if_pos hzero

/-- An infinity with a finite operand, either way round. -/
theorem ops_inf_finite (n : Bool) {x : F32} (hx : isFinite x = true) :
    let neg := n != f32IsNeg x
    let prod : F32 := if f32Val x = 0 then .nan else .inf neg
    fadd (.inf n) x = .inf n ∧ fadd x (.inf n) = .inf n ∧ fsub (.inf n) x = .inf n ∧ fsub x (.inf n) = .inf (!n) ∧
    fmul (.inf n) x = prod ∧ fmul x (.inf n) = prod ∧
    fdiv (.inf n) x = .inf neg ∧ fdiv x (.inf n) = .fin neg 0 := by
  obtain ⟨m, b, rfl⟩ := exists_fin_of_isFinite hx
  have hsign : (m != n) = (n != m) := bne_comm
  simp only [f32Val_eq_zero_iff, f32IsNeg, ← hsign]
  refine ⟨rfl, rfl, rfl, rfl, ?_, rfl, ?_, rfl⟩
  · rw [hsign]; rfl
  · rw [hsign]; rfl

theorem ops_inf_inf (n m : Bool) :
    fadd (.inf n) (.inf m) = (if n = m then .inf n else .nan) ∧
    fsub (.inf n) (.inf m) = (if n = m then .nan else .inf n) ∧
    fmul (.inf n) (.inf m) = .inf (n != m) ∧ fdiv (.inf n) (.inf m) = .nan := by
  cases n <;> cases m <;> exact ⟨rfl, rfl, rfl, rfl⟩

theorem ops_nan_left (y : F32) :
    fadd .nan y = .nan ∧ fsub .nan y = .nan ∧ fmul .nan y = .nan ∧ fdiv .nan y = .nan ∧
    flt .nan y = false ∧ fle .nan y = false ∧ fgt .nan y = false ∧ fge .nan y = false := by
  cases y <;> exact ⟨rfl, rfl, rfl, rfl, rfl, rfl, rfl, rfl⟩

theorem ops_nan_right (x : F32) :
    fadd x .nan = .nan ∧ fsub x .nan = .nan ∧ fmul x .nan = .nan ∧ fdiv x .nan = .nan ∧
    flt x .nan = false ∧ fle x .nan = false ∧ fgt x .nan = false ∧ fge x .nan = false := by
  cases x <;> exact ⟨rfl, rfl, rfl, rfl, rfl, rfl, rfl, rfl⟩

theorem signedMag_lt_iff (n m : Bool) (a b : Nat) :
    signedMag n a < signedMag m b ↔ f32Val (.fin n a) < f32Val (.fin m b) := by
  rw [f32Val, f32Val, div_lt_div_iff_of_pos_right (by positivity), Int.cast_lt]

theorem signedMag_le_iff (n m : Bool) (a b : Nat) :
    signedMag n a ≤ signedMag m b ↔ f32Val (.fin n a) ≤ f32Val (.fin m b) := by
  rw [f32Val, f32Val, div_le_div_iff_of_pos_right (by positivity), Int.cast_le]

/-- `flt` is the order of the values, the infinities at its ends. -/
theorem flt_iff {x y : F32} (hx : x ≠ .nan) (hy : y ≠ .nan) : flt x y = true ↔ f32Ext x < f32Ext y := by
  cases x with
  | nan => exact absurd rfl hx
  | inf n =>
    cases y with
    | nan => exact absurd rfl hy
    | inf m => cases n <;> cases m <;> simp [flt, f32Ext]
    | fin m b => cases n <;> simp [flt, f32Ext]
  | fin n a =>
    cases y with
    | nan => exact absurd rfl hy
    | inf m =>
      cases m
      · exact iff_of_true rfl (WithBot.coe_lt_coe.2 (WithTop.coe_lt_top _))
      · simp [flt, f32Ext]
    | fin m b => simp [flt, f32Ext, signedMag_lt_iff]

/-- `fle` is the order of the values, the infinities at its ends. -/
theorem fle_iff {x y : F32} (hx : x ≠ .nan) (hy : y ≠ .nan) : fle x y = true ↔ f32Ext x ≤ f32Ext y := by
  cases x with
  | nan => exact absurd rfl hx
  | inf n =>
    cases y with
    | nan => exact absurd rfl hy
    | inf m => cases n <;> cases m <;> simp [fle, f32Ext]
    | fin m b => cases n <;> simp [fle, f32Ext]
  | fin n a =>
    cases y with
    | nan => exact absurd rfl hy
    | inf m => cases m <;> simp [fle, f32Ext]
    | fin m b => simp [fle, f32Ext, signedMag_le_iff]

theorem isFinite_iff (x : F32) : isFinite x = true ↔ x ≠ .nan ∧ ∀ n, x ≠ .inf n := by
  cases x <;> simp [isFinite]

/-- Settles O60: finite operands by the lemma of each operation, the other operands by the cases of the definitions. -/
theorem operationsAreCorrectlyRounded : Obligations.OperationsAreCorrectlyRounded := by
  refine ⟨fun x y hx hy => ?_, fun n x hx => ops_inf_finite n hx, ops_inf_inf, ?_, fun x y hx hy => ?_, isFinite_iff⟩
  · exact ⟨correctlyRounded_fadd hx hy, correctlyRounded_fsub hx hy, correctlyRounded_fmul hx hy,
      correctlyRounded_fdiv hx hy, fdiv_of_zero hx hy⟩
  · rintro x y (rfl | rfl)
    · exact ops_nan_left y
    · exact ops_nan_right x
  · exact ⟨flt_iff hx hy, fle_iff hx hy, flt_iff hy hx, fle_iff hy hx⟩

end Sys2Proof.Machine
end

section
/-! Rounding to an integer (00_scope.md R13) and the cosine's conditions (R7). -/

namespace Sys2Proof.Machine

/-- The rounded magnitude is within a half of the exact one, and exactly a half away only from below. -/
theorem halfUp_nearest (mag : Nat) :
    |2 * (mag : ℤ) - 2 ^ 150 * ((2 * mag + 2 ^ 149) / 2 ^ 150 : ℕ)| ≤ 2 ^ 149 ∧
    (|2 * (mag : ℤ) - 2 ^ 150 * ((2 * mag + 2 ^ 149) / 2 ^ 150 : ℕ)| = 2 ^ 149 →
      mag < (2 * mag + 2 ^ 149) / 2 ^ 150 * 2 ^ 149) := by
  rw [abs_le, abs_eq (by norm_num)]
  omega

theorem abs_signedMag_sub (neg : Bool) (mag r : Nat) (unit : ℤ) :
    |2 * signedMag neg mag - unit * signedMag neg r| = |2 * (mag : ℤ) - unit * r| := by
  cases neg
  case false => rfl
  case true =>
    rw [← abs_neg]
    simp only [signedMag, cond_true]
    ring_nf

@[simp] theorem natAbs_signedMag (neg : Bool) (mag : Nat) : (signedMag neg mag).natAbs = mag := by
  cases neg <;> simp [signedMag]

/-- roundHalfAway is a nearest integer, of two the one of larger magnitude. -/
theorem roundHalfAway_nearest (neg : Bool) (mag : Nat) :
    |2 * signedMag neg mag - 2 ^ 150 * roundHalfAway neg mag| ≤ 2 ^ 149 ∧
    (|2 * signedMag neg mag - 2 ^ 150 * roundHalfAway neg mag| = 2 ^ 149 →
      mag < (roundHalfAway neg mag).natAbs * 2 ^ 149) := by
  rw [roundHalfAway, abs_signedMag_sub, natAbs_signedMag]
  exact halfUp_nearest mag

/-- The values in [0, 255]: -0.0 and the magnitudes up to 255 with the sign bit 0. -/
theorem mem_byte_range_iff (neg : Bool) (mag : Nat) :
    (fle fzero (.fin neg mag) = true ∧ fle (.fin neg mag) (f32OfNat 255) = true) ↔
      mag ≤ 255 * 2 ^ 149 ∧ (neg = true → mag = 0) := by
  simp only [fle, fzero, f32OfNat, decide_eq_true_eq]
  cases neg
  case false => simp only [signedMag, cond_false, Bool.false_eq_true, false_implies, and_true]; omega
  case true => simp only [signedMag, cond_true, cond_false, true_implies]; omega

/-- Settles O45: on [0, 255] roundHalfAway lies in [0, 255], so that the byte u8 takes of it is the number itself. -/
theorem roundHalfAwayIsNearest : Obligations.RoundHalfAwayIsNearest := by
  refine ⟨roundHalfAway_nearest, fun neg mag h0 h255 => ?_, by decide, by decide⟩
  obtain ⟨hmag, hneg⟩ := (mem_byte_range_iff neg mag).1 ⟨h0, h255⟩
  have hr : 0 ≤ roundHalfAway neg mag ∧ roundHalfAway neg mag ≤ 255 := by
    unfold roundHalfAway
    cases neg
    case false => simp only [signedMag, cond_false]; omega
    case true => rw [hneg rfl]; decide
  have hu8 : u8 (.fin neg mag) = BitVec.ofInt 8 (roundHalfAway neg mag) := by simp [u8, h0, h255]
  rw [hu8, BitVec.toNat_ofInt]
  omega

/-- A value in [-1, +1] is finite. -/
theorem isFinite_of_mem_unit {v : F32} (hlow : fle (fneg fone) v = true) (hup : fle v fone = true) :
    isFinite v = true := by
  cases v with
  | nan => cases hup
  | inf neg => cases neg <;> simp [fle, fone, fneg, f32OfNat] at hlow hup
  | fin neg mag => rfl

/-- COS of a finite value by its word: a fixed value for the three fixed arguments, else the free choice where that lies in
[-1, +1], else 1.0. -/
theorem cosF32_of_isFinite {x : F32} (hx : isFinite x = true) :
    cosF32 x =
      if encodeF32 x = 0#32 then fone
      else if encodeF32 x = 0x40490FDB#32 then fneg fone
      else if encodeF32 x = 0x40C90FDB#32 then fone
      else
        let v := decodeF32 (Config.cosChoice (encodeF32 x))
        if fle (fneg fone) v && fle v fone then v else fone := by
  obtain ⟨neg, mag, rfl⟩ := exists_fin_of_isFinite hx
  rfl

theorem cosF32_mem_unit {x : F32} (hx : isFinite x = true) :
    fle (fneg fone) (cosF32 x) = true ∧ fle (cosF32 x) fone = true := by
  have hone : fle (fneg fone) fone = true ∧ fle fone fone = true := by decide
  have hneg : fle (fneg fone) (fneg fone) = true ∧ fle (fneg fone) fone = true := by decide
  rw [cosF32_of_isFinite hx]
  split
  · exact hone
  split
  · exact hneg
  split
  · exact hone
  dsimp only
  split
  case isTrue h => exact Bool.and_eq_true_iff.1 h
  case isFalse => exact hone

theorem cosF32_of_not_finite {x : F32} (hx : isFinite x = false) : cosF32 x = .nan := by
  cases x with
  | nan => rfl
  | inf neg => rfl
  | fin neg mag => cases hx

/-- Settles O46: the three fixed arguments are the words that COS tests for, by the round trip of the encodings. -/
theorem cosineMeetsItsConditions : Obligations.CosineMeetsItsConditions := by
  refine ⟨fun x hx => ?_, fun x hx => cosF32_of_not_finite hx, ?_, ?_, ?_⟩
  · obtain ⟨hlow, hup⟩ := cosF32_mem_unit hx
    exact ⟨isFinite_of_mem_unit hlow hup, hlow, hup⟩
  · rw [cosF32_of_isFinite (by decide)]
    rfl
  · rw [cosF32_of_isFinite (by decide), encodeF32_decodeF32 _ (by decide)]
    rfl
  · rw [cosF32_of_isFinite (by decide), encodeF32_decodeF32 _ (by decide)]
    rfl

end Sys2Proof.Machine
end

section
/-! The build parameters are fixed (00_scope.md R6, R7). -/

namespace Sys2Proof.Machine

theorem step_cfg {s t : State} (h : step s = .next t) : t.cfg = s.cfg := by
  obtain ⟨hphases, -⟩ := internalPhases_frame s s.nextInput.dqIn
  rcases step_cases s with ⟨-, hstep⟩ | ⟨-, -, hstep⟩ | ⟨tw, -, -, hstep⟩
  · obtain rfl : s.resetCycle = t := by rw [hstep] at h; injection h
    rfl
  · obtain rfl : s.internalPhases s.nextInput.dqIn = t := by rw [hstep] at h; injection h
    exact hphases
  · obtain ⟨hexec, -⟩ := exec_frame _ _ _ (hstep.symm.trans h)
    exact hexec.trans hphases

/-- Settles O12: reset keeps the parameters, and neither the phases of a cycle nor its transaction write them. -/
theorem stepKeepsParameters : Obligations.StepKeepsParameters := fun _ _ => step_cfg

end Sys2Proof.Machine
end

section
/-! What a transaction can do: exec's arms by their effect on the state. Each lemma below about every transaction is a case
analysis over these effects, and no longer over the 53 constructors. -/

namespace Sys2Proof.Machine

/-- `Effect s i t`: the transaction `i` may leave `t` from `s`. A command that fails is a case apart from one that
completes. -/
inductive Effect (s : State) : Instr → State → Prop
  /-- The six BUS_ERROR rows (20_memory.md R84). -/
  | busError (i : Instr) : Effect s i (s.raise .busError)
  /-- A read, NOP, or a write of a read-only register: the response alone (40_cycle_and_bus.md R139, R140, R142). -/
  | answered (i : Instr) (v : Word) : Effect s i (s.answer v)
  /-- SWD_START in IDLE (42_acquisition.md R190). -/
  | started (h : s.status.fsm = .idle) : Effect s .swdStart ((startAcquisition s).answer 0#32)
  /-- SWD_START outside IDLE (42_acquisition.md R190). -/
  | startBusy (h : s.status.fsm ≠ .idle) : Effect s .swdStart ((s.raise .startWhileBusy).answer 0#32)
  /-- PIC_SETPOINT that completes (43_controller.md R223). -/
  | setpointDone (v : F32) (h : setpoint s.cfg s.pic = .ok v) :
      Effect s .picSetpoint ({ s with pic.consigne := encodeF32 v }.answer 0#32)
  /-- PIC_SETPOINT that fails its configuration check (43_controller.md R222). -/
  | setpointConfig (h : setpoint s.cfg s.pic = .error .configError) :
      Effect s .picSetpoint ((s.raise .configError).answer 0#32)
  /-- PIC_SETPOINT that fails its numeric guard (43_controller.md R223). -/
  | setpointNumeric (h : setpoint s.cfg s.pic = .error .numericError) :
      Effect s .picSetpoint ((s.raise .numericError).answer 0#32)
  /-- PIC_LUX with COUNT < 2 (43_controller.md R226). -/
  | luxShort (h : (luxCount s.pic.luxIn).toNat < 2) : Effect s .picLux ((s.raise .luxShortfall).answer 0#32)
  /-- PIC_LUX with COUNT ≥ 2 (43_controller.md R226). -/
  | luxLoaded (h : ¬(luxCount s.pic.luxIn).toNat < 2) :
      Effect s .picLux ({ s with pic := s.pic.loadLux s.cfg, status.luxValid := true }.answer 0#32)
  /-- PIC_REGULATE that completes (43_controller.md R232 to R235). -/
  | regulateDone (r : RegResult) (h : regulate s.cfg s.pic = .ok r) :
      Effect s .picRegulate ((s.regulated r).answer 0#32)
  /-- PIC_REGULATE that fails its numeric guard (43_controller.md R231). -/
  | regulateNumeric (h : regulate s.cfg s.pic = .error .numericError) :
      Effect s .picRegulate ({ s.raise .numericError with pwmWe := false }.answer 0#32)
  /-- ILLEGAL_CMD (40_cycle_and_bus.md R143). -/
  | illegal (d : Word) : Effect s (.illegalCmd d) ((s.raise .illegalCommand).answer 0#32)
  /-- A write of STATUS (40_cycle_and_bus.md R140). -/
  | acknowledged (d : Word) : Effect s (.wrStatus d) ((s.acknowledge d).answer 0#32)
  /-- The other writable registers, here and below (40_cycle_and_bus.md R140). -/
  | irqEn (d : Word) : Effect s (.wrIrqEn d) ({ s with doneIe := bit0Of d }.answer 0#32)
  | swdTstart (d : Word) : Effect s (.wrSwdTstart d) ({ s with swd.tstart := low16Of d }.answer 0#32)
  | swdTimeout (d : Word) : Effect s (.wrSwdTimeout d) ({ s with swd.timeout := low16Of d }.answer 0#32)
  | picS (d : Word) : Effect s (.wrPicS d) ({ s with pic.dayStart := d }.answer 0#32)
  | picD (d : Word) : Effect s (.wrPicD d) ({ s with pic.duration := d }.answer 0#32)
  | picA (d : Word) : Effect s (.wrPicA d) ({ s with pic.amplitude := d }.answer 0#32)
  | picHour (d : Word) : Effect s (.wrPicHour d) ({ s with pic.hour := d }.answer 0#32)
  | picLuxin (d : Word) : Effect s (.wrPicLuxin d) ({ s with pic.luxIn := low18Of d }.answer 0#32)

theorem effect_of_exec {i : Instr} {s t : State} (h : exec i s = .next t) : Effect s i t := by
  cases i <;> (injection h with h; subst h)
  case busErrorOdd | busErrorHalf | busErrorUnmapped54 | busErrorUnmapped58 | busErrorUnmapped60 |
      busErrorUnmapped80 => exact .busError _
  case swdStart =>
    split
    case isTrue h => exact .started h
    case isFalse h => exact .startBusy h
  case picSetpoint =>
    rcases setpointApplied_cases s with ⟨v, h, heq⟩ | ⟨h, heq⟩ | ⟨h, heq⟩ <;> rw [heq]
    · exact .setpointDone v h
    · exact .setpointConfig h
    · exact .setpointNumeric h
  case picLux =>
    split
    case isTrue h => exact .luxShort h
    case isFalse h => exact .luxLoaded h
  case picRegulate =>
    rcases regulateApplied_cases s with ⟨r, h, heq⟩ | ⟨h, heq⟩ <;> rw [heq]
    · exact .regulateDone r h
    · exact .regulateNumeric h
  case illegalCmd d => exact .illegal d
  case wrStatus d => exact .acknowledged d
  case wrIrqEn d => exact .irqEn d
  case wrSwdTstart d => exact .swdTstart d
  case wrSwdTimeout d => exact .swdTimeout d
  case wrPicS d => exact .picS d
  case wrPicD d => exact .picD d
  case wrPicA d => exact .picA d
  case wrPicHour d => exact .picHour d
  case wrPicLuxin d => exact .picLuxin d
  all_goals exact .answered _ _

/-- The induction step of every invariant: what reset establishes, and phases (a) and (b) and every transaction keep, a step
keeps. -/
theorem step_keeps {P : State → Prop} (hreset : ∀ s, P s → P s.resetCycle)
    (hphases : ∀ s dq, P s → P (s.internalPhases dq)) (hexec : ∀ i s t, P s → exec i s = .next t → P t)
    {s t : State} (hs : P s) (h : step s = .next t) : P t := by
  rcases step_cases s with ⟨-, hstep⟩ | ⟨-, -, hstep⟩ | ⟨tw, -, -, hstep⟩ <;> rw [hstep] at h
  · injection h with h
    exact h ▸ hreset s hs
  · injection h with h
    exact h ▸ hphases s _ hs
  · exact hexec _ _ _ (hphases s _ hs) h

/-- A cycle without reset: phases (a) and (b), then the transaction, if there is one. -/
theorem step_cases_of_no_reset {s t : State} (hrst : s.nextInput.rst = false) (h : step s = .next t) :
    (s.nextInput.req = none ∧ t = s.internalPhases s.nextInput.dqIn) ∨
    (∃ tw, s.nextInput.req = some tw ∧ exec (decodeTW tw) (s.internalPhases s.nextInput.dqIn) = .next t) := by
  cases hreq : s.nextInput.req with
  | none =>
    rw [step_of_no_request s hrst hreq] at h
    injection h with h
    exact .inl ⟨rfl, h.symm⟩
  | some tw => exact .inr ⟨tw, rfl, (step_of_request s tw hrst hreq).symm.trans h⟩

end Sys2Proof.Machine
end

section
/-! The acquisition between cycles (10_state.md R39, 42_acquisition.md R192, R196): each SWD_STATE has one clause of the
invariant, beside the bound of EDGE_COUNT. -/

namespace Sys2Proof.Machine

theorem acquisitionOk_of_idle {s : State} (hfsm : s.status.fsm = .idle) (hcount : s.swd.edgeCount.toNat ≤ 84) :
    s.acquisitionOk := by
  simp [State.acquisitionOk, hfsm, hcount]

theorem acquisitionOk_of_requesting {s : State} (hfsm : s.status.fsm = .requesting)
    (hcount : s.swd.edgeCount.toNat ≤ 84) (hpulse : s.swd.pcnt.toNat ≤ s.swd.tstartL.toNat) : s.acquisitionOk := by
  simp [State.acquisitionOk, hfsm, hcount, hpulse]

theorem acquisitionOk_of_listening {s : State} (hfsm : s.status.fsm = .listening) (hcount : s.swd.edgeCount.toNat < 84)
    (hwindow : s.swd.pcnt.toNat < s.swd.timeoutL.toNat ∨ s.swd.pcnt = 0) : s.acquisitionOk := by
  simpa [State.acquisitionOk, hfsm, hcount, hcount.le] using hwindow

theorem acquisitionOk_of_decoding {s : State} (hfsm : s.status.fsm = .decoding) (hcount : s.swd.edgeCount.toNat ≤ 84)
    (hexit : s.swd.edgeCount.toNat = 84 ∨ s.swd.timeoutL.toNat ≤ s.swd.pcnt.toNat) : s.acquisitionOk := by
  simp [State.acquisitionOk, hfsm, hcount, hexit]

/-- The edge phase counts at most one edge, and only below 84; the state machine and its counter are not its own. -/
theorem edgePhase_acquisition (dq : Bool) (st0 : SwdState) (s : State) (hcount : s.swd.edgeCount.toNat ≤ 84) :
    (edgePhase dq st0 s).swd.edgeCount.toNat ≤ 84 ∧ (edgePhase dq st0 s).status.fsm = s.status.fsm ∧
    (edgePhase dq st0 s).swd.pcnt = s.swd.pcnt ∧ (edgePhase dq st0 s).swd.tstartL = s.swd.tstartL := by
  rcases edgePhase_cases dq st0 s with ⟨-, -, hlt, heq⟩ | ⟨-, heq⟩ <;> rw [heq]
  · obtain ⟨-, -, -, -, -, -, hpcnt, htstartL, -, hnext, -⟩ := captureEdge_frame s.swd s.ts
    refine ⟨?_, rfl, hpcnt, htstartL⟩
    simp only [hnext]
    bv_omega
  · exact ⟨hcount, rfl, rfl, rfl⟩

theorem requestingStep_acquisitionOk (tick : Bool) {s : State} (hfsm : s.status.fsm = .requesting)
    (hcount : s.swd.edgeCount.toNat ≤ 84) (hpulse : s.swd.pcnt.toNat ≤ s.swd.tstartL.toNat) :
    (requestingStep tick s).acquisitionOk := by
  rcases requestingStep_cases tick s with ⟨-, heq⟩ | ⟨-, hle, heq⟩ | ⟨-, -, heq⟩ <;> rw [heq]
  · exact acquisitionOk_of_requesting hfsm hcount hpulse
  · exact acquisitionOk_of_requesting hfsm hcount hle
  · exact acquisitionOk_of_listening rfl (by simp) (.inr rfl)

theorem listeningStep_acquisitionOk (tick : Bool) {s : State} (hfsm : s.status.fsm = .listening)
    (hcount : s.swd.edgeCount.toNat ≤ 84) : (listeningStep tick s).acquisitionOk := by
  rw [listeningStep_eq]
  by_cases hexit : s.swd.edgeCount.toNat = 84 ∨ s.swd.timeoutL.toNat ≤ (pcntNext tick s.swd.pcnt).toNat
  · exact acquisitionOk_of_decoding (if_pos hexit) hcount hexit
  · rw [not_or, not_le] at hexit
    obtain ⟨hne, hwindow⟩ := hexit
    exact acquisitionOk_of_listening (by simp [hne, hwindow, hfsm]) (lt_of_le_of_ne hcount hne) (.inl hwindow)

theorem commitOutcome_edgeCount (s : State) : (commitOutcome s).swd.edgeCount = s.swd.edgeCount := by
  rcases commitOutcome_cases s with ⟨-, -, heq⟩ | ⟨-, -, heq⟩ | ⟨-, heq⟩ <;> rw [heq] <;> rfl

theorem commit_acquisitionOk {s : State} (hcount : s.swd.edgeCount.toNat ≤ 84) : (commit s).acquisitionOk :=
  acquisitionOk_of_idle rfl (by simpa [commit, commitOutcome_edgeCount] using hcount)

/-- The FSM phase needs of the invariant only the bound of EDGE_COUNT and, in REQUESTING, that of S.PCNT. -/
theorem fsmPhase_acquisitionOk (tick : Bool) {s : State} (hcount : s.swd.edgeCount.toNat ≤ 84)
    (hpulse : s.status.fsm = .requesting → s.swd.pcnt.toNat ≤ s.swd.tstartL.toNat) :
    (fsmPhase tick s.status.fsm s).acquisitionOk := by
  cases hfsm : s.status.fsm
  case idle => exact acquisitionOk_of_idle hfsm hcount
  case requesting => exact requestingStep_acquisitionOk tick hfsm hcount (hpulse hfsm)
  case listening => exact listeningStep_acquisitionOk tick hfsm hcount
  case decoding => exact commit_acquisitionOk hcount

theorem internalPhases_acquisitionOk (s : State) (dq : Bool) (hs : s.acquisitionOk) :
    (s.internalPhases dq).acquisitionOk := by
  obtain ⟨hcount, hpulse, -, -⟩ := hs
  obtain ⟨hcount', hfsm, hpcnt, htstartL⟩ :=
    edgePhase_acquisition dq s.status.fsm (timerPhase s.beginCycle) hcount
  have hphase := fsmPhase_acquisitionOk s.usTick hcount' (by rw [hfsm, hpcnt, htstartL]; exact hpulse)
  rw [hfsm] at hphase
  exact hphase

/-- Of all transactions only an accepted SWD_START touches the acquisition, and it opens a pulse of length 0. -/
theorem exec_acquisitionOk (i : Instr) (s t : State) (hs : s.acquisitionOk) (h : exec i s = .next t) :
    t.acquisitionOk := by
  cases effect_of_exec h
  case started =>
    obtain ⟨hcount, -⟩ := hs
    exact acquisitionOk_of_requesting rfl hcount (Nat.zero_le _)
  all_goals exact hs

/-- Settles O38: the phase of each SWD_STATE establishes the clause of the state it leaves for. -/
theorem stepKeepsAcquisition : Obligations.StepKeepsAcquisition := fun _ _ =>
  step_keeps (fun _ _ => acquisitionOk_of_idle rfl (by simp [Swd.reset])) internalPhases_acquisitionOk exec_acquisitionOk

end Sys2Proof.Machine
end

section
/-! The committed reading (10_state.md R34, R35, R40 to R42): only a commit writes the frame words, and it writes them with
their checksum (42_acquisition.md R199). -/

namespace Sys2Proof.Machine

theorem edgePhase_readingOk (dq : Bool) (st0 : SwdState) {s : State} (hs : s.readingOk) :
    (edgePhase dq st0 s).readingOk := by
  rcases edgePhase_cases dq st0 s with ⟨-, -, -, heq⟩ | ⟨-, heq⟩ <;> rw [heq]
  · obtain ⟨hhumid, htemp, hcsum, -⟩ := captureEdge_frame s.swd s.ts
    simpa [State.readingOk, hhumid, htemp, hcsum] using hs
  · exact hs

/-- A commit exposes words that satisfy the checksum, or keeps the words and reports a failure. -/
theorem commit_readingOk {s : State} (hs : s.readingOk) : (commit s).readingOk := by
  obtain ⟨hsum, hzero, -, -⟩ := hs
  unfold commit
  rcases commitOutcome_cases s with ⟨-, hok, heq⟩ | ⟨-, -, heq⟩ | ⟨-, heq⟩ <;> rw [heq]
  · exact ⟨fun _ => hok, nofun, fun _ => rfl, nofun⟩
  · exact ⟨hsum, hzero, nofun, nofun⟩
  · exact ⟨hsum, hzero, nofun, nofun⟩

theorem fsmPhase_readingOk (tick : Bool) (st0 : SwdState) {s : State} (hs : s.readingOk) :
    (fsmPhase tick st0 s).readingOk := by
  cases st0 <;> unfold fsmPhase
  case idle => exact hs
  case requesting =>
    rcases requestingStep_cases tick s with ⟨-, heq⟩ | ⟨-, -, heq⟩ | ⟨-, -, heq⟩ <;> rw [heq] <;> exact hs
  case listening => rw [listeningStep_eq]; exact hs
  case decoding => exact commit_readingOk hs

theorem internalPhases_readingOk (s : State) (dq : Bool) (hs : s.readingOk) : (s.internalPhases dq).readingOk :=
  have hs' : (timerPhase s.beginCycle).readingOk := hs
  fsmPhase_readingOk _ _ (edgePhase_readingOk dq _ hs')

/-- Of all transactions only a write of STATUS touches what the reading's invariant speaks of: it may clear SWD_DONE. -/
theorem exec_readingOk (i : Instr) (s t : State) (hs : s.readingOk) (h : exec i s = .next t) : t.readingOk := by
  cases effect_of_exec h
  case acknowledged d =>
    obtain ⟨hsum, hzero, hvalid, hnone⟩ := hs
    refine ⟨hsum, hzero, hvalid, fun hresult => ?_⟩
    obtain ⟨hdone, hdata⟩ := hnone hresult
    exact ⟨by simp [hdone], hdata⟩
  all_goals exact hs

theorem resetCycle_readingOk (s : State) : s.resetCycle.readingOk :=
  ⟨nofun, fun _ => ⟨rfl, rfl, rfl⟩, nofun, fun _ => ⟨rfl, rfl⟩⟩

/-- Settles O39: the frame words move only in a commit, which checks them first. -/
theorem stepKeepsReading : Obligations.StepKeepsReading := fun _ _ =>
  step_keeps (fun s _ => resetCycle_readingOk s) internalPhases_readingOk exec_readingOk

end Sys2Proof.Machine
end

section
/-! The time base (10_state.md R60): the prescaler wraps where it would reach CLK_PER_US (40_cycle_and_bus.md R131). -/

namespace Sys2Proof.Machine

theorem usTick_iff (s : State) : s.usTick = true ↔ s.presc = s.cfg.clkPerUs - 1 := beq_iff_eq

theorem internalPhases_timeOk (s : State) (dq : Bool) (hs : s.timeOk) : (s.internalPhases dq).timeOk := by
  obtain ⟨hclk, hpresc⟩ := hs
  obtain ⟨hcfg, -⟩ := internalPhases_frame s dq
  obtain ⟨hnext, -⟩ := internalPhases_time s dq
  rw [State.timeOk, hcfg, hnext]
  refine ⟨hclk, ?_⟩
  by_cases htick : s.usTick = true
  · rw [if_pos htick]
    exact hclk
  · rw [if_neg htick]
    rw [usTick_iff] at htick
    omega

theorem exec_timeOk (i : Instr) (s t : State) (hs : s.timeOk) (h : exec i s = .next t) : t.timeOk := by
  obtain ⟨hcfg, -, hpresc, -⟩ := exec_frame i s t h
  rw [State.timeOk, hcfg, hpresc]
  exact hs

/-- Settles O11: reset clears S.PRESC, phase (a) wraps it in time, and no transaction writes it. -/
theorem stepKeepsTimeBase : Obligations.StepKeepsTimeBase := fun _ _ =>
  step_keeps (fun _ ⟨hclk, _⟩ => ⟨hclk, hclk⟩) internalPhases_timeOk exec_timeOk

end Sys2Proof.Machine
end

section
/-! The sticky flags (10_state.md R37): phases (a) and (b) and the record of an error only set them, and of all transactions
only a write of STATUS clears any. -/

namespace Sys2Proof.Machine

/-- The W1C fields of STATUS (10_state.md R34). -/
inductive StickyFlag where
  | done
  | errIllegalCmd
  | errStartBusy
  | luxShort
  | cfgErr
  | numErr
  | pwmChanged
  | errBus
  deriving DecidableEq

/-- The bit of STATUS at which the flag stands. -/
def StickyFlag.bit : StickyFlag → Nat
  | .done => 5
  | .errIllegalCmd => 8
  | .errStartBusy => 9
  | .luxShort => 10
  | .cfgErr => 11
  | .numErr => 12
  | .pwmChanged => 13
  | .errBus => 15

/-- Whether the flag is 1. -/
def StickyFlag.value : StickyFlag → Status → Bool
  | .done, st => st.done
  | .errIllegalCmd, st => st.errIllegalCmd
  | .errStartBusy, st => st.errStartBusy
  | .luxShort, st => st.luxShort
  | .cfgErr, st => st.cfgErr
  | .numErr, st => st.numErr
  | .pwmChanged, st => st.pwmChanged
  | .errBus, st => st.errBus

/-- The flag that records an error (60_exceptions.md R261). -/
def BlockError.flag : BlockError → StickyFlag
  | .busError => .errBus
  | .illegalCommand => .errIllegalCmd
  | .startWhileBusy => .errStartBusy
  | .luxShortfall => .luxShort
  | .configError => .cfgErr
  | .numericError => .numErr
  | .acquisitionTimeout => .done
  | .checksumMismatch => .done

/-- The record of an error sets its own flag and leaves the others. -/
theorem value_raise (f : StickyFlag) (s : State) (e : BlockError) :
    f.value (s.raise e).status = (f.value s.status || decide (f = e.flag)) := by
  cases e <;> cases f <;> simp [StickyFlag.value, BlockError.flag]

theorem value_raise_of_set {f : StickyFlag} {s : State} (hf : f.value s.status = true) (e : BlockError) :
    f.value (s.raise e).status = true := by
  rw [value_raise, hf, Bool.true_or]

/-- An acknowledgement acts on each flag by the flag's own bit; phase (b) holds SWD_DONE alone (40_cycle_and_bus.md R137). -/
theorem value_ack (f : StickyFlag) (st : Status) (d : Word) (doneSetB : Bool) :
    f.value (st.ack d doneSetB) = w1c (f.value st) (d.getLsbD f.bit) (decide (f = .done) && doneSetB) := by
  cases f <;> simp [StickyFlag.value, StickyFlag.bit]

theorem value_ack_of_set {f : StickyFlag} {st : Status} (hf : f.value st = true) (d : Word) (doneSetB : Bool) :
    f.value (st.ack d doneSetB) = true ∨ d.getLsbD f.bit = true := by
  cases hbit : d.getLsbD f.bit
  case true => exact .inr rfl
  case false => exact .inl (by rw [value_ack, hbit, w1c_unwritten, hf])

theorem value_commit_of_set {f : StickyFlag} {s : State} (hf : f.value s.status = true) :
    f.value (commit s).status = true := by
  have houtcome : f.value (commitOutcome s).status = true := by
    rcases commitOutcome_cases s with ⟨-, -, heq⟩ | ⟨-, -, heq⟩ | ⟨-, heq⟩ <;> rw [heq]
    · cases f
      case done => rfl
      all_goals exact hf
    · exact value_raise_of_set hf _
    · exact value_raise_of_set hf _
  cases f
  case done => rfl
  all_goals exact houtcome

theorem value_edgePhase (f : StickyFlag) (dq : Bool) (st0 : SwdState) (s : State) :
    f.value (edgePhase dq st0 s).status = f.value s.status := by
  rcases edgePhase_cases dq st0 s with ⟨-, -, -, heq⟩ | ⟨-, heq⟩ <;> rw [heq]
  cases f <;> rfl

theorem value_fsmPhase_of_set {f : StickyFlag} {s : State} (hf : f.value s.status = true) (tick : Bool)
    (st0 : SwdState) : f.value (fsmPhase tick st0 s).status = true := by
  have hfsm (st : SwdState) : f.value { s.status with fsm := st } = true := by cases f <;> exact hf
  cases st0 <;> unfold fsmPhase
  case idle => exact hf
  case requesting =>
    rcases requestingStep_cases tick s with ⟨-, heq⟩ | ⟨-, -, heq⟩ | ⟨-, -, heq⟩ <;> rw [heq]
    · exact hf
    · exact hf
    · exact hfsm .listening
  case listening => rw [listeningStep_eq]; exact hfsm _
  case decoding => exact value_commit_of_set hf

theorem value_internalPhases_of_set {f : StickyFlag} {s : State} (hf : f.value s.status = true) (dq : Bool) :
    f.value (s.internalPhases dq).status = true :=
  value_fsmPhase_of_set ((value_edgePhase f dq _ (timerPhase s.beginCycle)).trans hf) _ _

/-- A flag that is 1 stays 1 through any transaction but a write of STATUS with its bit. -/
theorem value_exec_of_set {f : StickyFlag} {i : Instr} {s t : State} (hf : f.value s.status = true)
    (h : exec i s = .next t) :
    f.value t.status = true ∨ ∃ d, i = .wrStatus d ∧ d.getLsbD f.bit = true := by
  cases effect_of_exec h
  case acknowledged d => exact (value_ack_of_set hf d s.doneSetB).imp_right fun hbit => ⟨d, rfl, hbit⟩
  case regulateDone r =>
    left
    cases f
    case pwmChanged => exact Bool.or_eq_true_iff.2 (.inl hf)
    all_goals exact hf
  case started | luxLoaded => left; cases f <;> exact hf
  case busError | startBusy | setpointConfig | setpointNumeric | luxShort | regulateNumeric | illegal =>
    exact .inl (value_raise_of_set hf _)
  all_goals exact .inl hf

theorem decodeWrite_eq_wrStatus {data d : Word} {r : Reg} (h : decodeWrite data r = .wrStatus d) :
    r = .status ∧ data = d := by
  cases r
  case cmd =>
    simp only [decodeWrite, decodeCommand] at h
    split at h <;> cases h
  case status => exact ⟨rfl, Instr.wrStatus.inj h⟩
  all_goals cases h

theorem decodeRead_ne_wrStatus (r : Reg) (d : Word) : decodeRead r ≠ .wrStatus d := by
  cases r <;> nofun

theorem decodeBusError_ne_wrStatus (we : Bool) (addr : Byte) (data d : Word) :
    decodeBusError we addr data ≠ .wrStatus d := by
  unfold decodeBusError
  split_ifs <;> nofun

/-- The one word of a write of STATUS with DATA `d` (30_encoding.md R101, R104). -/
theorem decodeTW_eq_wrStatus {tw : TW} {d : Word} (h : decodeTW tw = .wrStatus d) : tw = packTW true 0x04#8 d := by
  rw [decodeTW, decodeFields] at h
  cases hreg : Reg.ofOffset (addrOf tw) with
  | none =>
    rw [hreg] at h
    exact absurd h (decodeBusError_ne_wrStatus _ _ _ _)
  | some r =>
    rw [hreg] at h
    cases hwe : weOf tw
    case false => exact absurd (by simpa [hwe] using h) (decodeRead_ne_wrStatus r d)
    case true =>
      obtain ⟨rfl, rfl⟩ := decodeWrite_eq_wrStatus (by simpa [hwe] using h)
      rw [← packTW_fields tw, hwe, ← offset_of_ofOffset _ _ hreg]
      simp [Reg.offset]

/-- Settles O21: a flag lost in a cycle was lost in its transaction, a write of STATUS with the flag's bit. -/
theorem flagsAreSticky : Obligations.FlagsAreSticky := by
  intro s t hrst hstep cleared
  have hkept (f : StickyFlag) (hf : f.value s.status = true) : f.value t.status = true ∨ cleared f.bit := by
    have hf' := value_internalPhases_of_set hf s.nextInput.dqIn
    rcases step_cases_of_no_reset hrst hstep with ⟨-, rfl⟩ | ⟨tw, hreq, hexec⟩
    · exact .inl hf'
    · refine (value_exec_of_set hf' hexec).imp_right fun ⟨d, hdecode, hbit⟩ => ⟨d, ?_, hbit⟩
      rw [hreq, decodeTW_eq_wrStatus hdecode]
  exact ⟨hkept .done, hkept .errIllegalCmd, hkept .errStartBusy, hkept .luxShort, hkept .cfgErr, hkept .numErr,
    hkept .pwmChanged, hkept .errBus⟩

end Sys2Proof.Machine
end

section
/-! The strobe and the duty of the PWM (10_state.md R58, R68, 43_controller.md R235). -/

namespace Sys2Proof.Machine

/-- Of all transactions only a completed PIC_REGULATE moves PIC_PWM, and it drives `pwm_we` by whether it does. -/
theorem exec_pwm {i : Instr} {s t : State} (hwe : s.pwmWe = false) (h : exec i s = .next t) :
    (t.pwmWe = true ↔ t.pic.pwm ≠ s.pic.pwm) ∧
    (t.pic.pwm ≠ s.pic.pwm → t.status.pwmChanged = true ∧ i = .picRegulate) := by
  cases effect_of_exec h
  case regulateDone r =>
    exact ⟨bne_iff_ne, fun hmoved => ⟨Bool.or_eq_true_iff.2 (.inr (bne_iff_ne.2 hmoved)), rfl⟩⟩
  case regulateNumeric => simp
  all_goals simp [hwe, Pic.loadLux]

/-- Settles O55: phases (a) and (b) leave PIC_PWM and a strobe of 0; the rest is the cycle's transaction. -/
theorem pwmMovesOnlyByRegulate : Obligations.PwmMovesOnlyByRegulate := by
  intro s t hrst hstep
  obtain ⟨-, -, hpic⟩ := internalPhases_frame s s.nextInput.dqIn
  obtain ⟨-, -, hwe, -⟩ := internalPhases_ports s s.nextInput.dqIn
  rcases step_cases_of_no_reset hrst hstep with ⟨-, rfl⟩ | ⟨tw, hreq, hexec⟩
  · simp [State.pwmDuty, hpic, hwe]
  · obtain ⟨hiff, honly⟩ := exec_pwm hwe hexec
    rw [hpic] at hiff honly
    refine ⟨hiff, hiff, fun hmoved => ?_⟩
    obtain ⟨hchanged, hdecode⟩ := honly hmoved
    exact ⟨hchanged, tw, hreq, hdecode⟩

end Sys2Proof.Machine
end

section
/-! The word of STATUS (10_state.md R34), a concatenation with the lowest field last. -/

namespace Sys2Proof.Machine

theorem image_result (st : Status) : st.image.extractLsb' 0 2 = st.result.code :=
  BitVec.extractLsb'_append_eq_right

theorem image_fsm (st : Status) : st.image.extractLsb' 2 2 = st.fsm.code :=
  (BitVec.extractLsb'_append_eq_of_le le_rfl).trans BitVec.extractLsb'_append_eq_right

theorem image_reserved (st : Status) : st.image.extractLsb' 16 16 = 0#16 := by
  simp (disch := decide) only [Status.image, BitVec.extractLsb'_append_eq_of_le]
  rfl

/-- Settles O13: a field is found by peeling off the concatenation, from the low end, the fields below it. -/
theorem statusFieldsAtTheirBits : Obligations.StatusFieldsAtTheirBits := by
  intro st
  refine ⟨(image_result st).trans ?_, (image_fsm st).trans ?_, ?_, ?_, ?_, ?_, ?_, ?_, ?_, ?_, ?_, ?_, ?_, ?_,
    image_reserved st⟩
  · cases st.result <;> rfl
  · cases st.fsm <;> rfl
  all_goals
    simp only [Status.image, BitVec.getLsbD_append]
    simp

end Sys2Proof.Machine
end

section
/-! The output ports (10_state.md R68). -/

namespace Sys2Proof.Machine

/-- Settles O59: the state ports are its definitions; the response ports are driven by a transaction alone. -/
theorem outputPortsFollowTheState : Obligations.OutputPortsFollowTheState := by
  refine ⟨fun s => ⟨by simp [State.dqOe], rfl, by simp [State.irq]⟩, fun s t hrst hreq hstep => ?_⟩
  obtain ⟨hrdata, hbusErr, hpwmWe, -⟩ := internalPhases_ports s s.nextInput.dqIn
  rw [step_of_no_request s hrst hreq] at hstep
  injection hstep with hstep
  exact hstep ▸ ⟨hrdata, hbusErr, hpwmWe⟩

end Sys2Proof.Machine
end

section
/-! The response to a transaction (20_memory.md R84, R89): a bus error is the record of BusError alone, and every other
transaction answers. -/

namespace Sys2Proof.Machine

theorem decodeTW_of_none {tw : TW} (h : Reg.ofOffset (addrOf tw) = none) :
    decodeTW tw = decodeBusError (weOf tw) (addrOf tw) (dataOf tw) := by
  rw [decodeTW, decodeFields, h]

theorem decodeTW_of_some {tw : TW} {r : Reg} (h : Reg.ofOffset (addrOf tw) = some r) :
    decodeTW tw = if weOf tw then decodeWrite (dataOf tw) r else decodeRead r := by
  rw [decodeTW, decodeFields, h]

theorem exec_decodeBusError (we : Bool) (addr : Byte) (data : Word) (s : State) :
    exec (decodeBusError we addr data) s = .next (s.raise .busError) := by
  unfold decodeBusError
  split_ifs <;> rfl

theorem exec_decodeRead (r : Reg) (s : State) : exec (decodeRead r) s = .next (s.answer (regImage s r)) := by
  cases r <;> rfl

/-- Every write of a mapped register, a command included, ends in the answer of a write (40_cycle_and_bus.md R140, R141). -/
theorem exec_decodeWrite_answers (d : Word) (r : Reg) (s : State) :
    ∃ u, exec (decodeWrite d r) s = .next (State.answer u 0#32) := by
  cases r
  case cmd =>
    simp only [decodeWrite, decodeCommand]
    split <;> exact ⟨_, rfl⟩
  all_goals exact ⟨_, rfl⟩

/-- Of all transactions only a bus error sets ERR_BUS, and it shows on `bus_err`. -/
theorem errBus_of_exec {i : Instr} {s t : State} (h : exec i s = .next t) (hanswer : t.busErr = false)
    (hset : t.status.errBus = true) : s.status.errBus = true := by
  cases effect_of_exec h
  case busError => cases hanswer
  case acknowledged => exact (Bool.and_eq_true_iff.1 hset).1
  all_goals exact hset

/-- Settles O16: a word reaches a BUS_ERROR row where its offset has no register, and a read or a write where it has one. -/
theorem busErrorHasOneEffect : Obligations.BusErrorHasOneEffect := by
  refine ⟨fun _ _ _ _ => ⟨rfl, rfl, rfl, rfl, rfl, rfl⟩, fun tw s => ?_⟩
  rw [← ofOffset_eq_none]
  refine ⟨fun hnone => ?_, fun hmapped => ?_⟩
  · rw [decodeTW_of_none hnone]
    exact exec_decodeBusError _ _ _ s
  · obtain ⟨r, hr⟩ := Option.ne_none_iff_exists'.1 hmapped
    have hanswers : ∃ u v, exec (decodeTW tw) s = .next (State.answer u v) := by
      rw [decodeTW_of_some hr]
      split
      · obtain ⟨u, hu⟩ := exec_decodeWrite_answers (dataOf tw) r s
        exact ⟨u, _, hu⟩
      · exact ⟨s, _, exec_decodeRead r s⟩
    obtain ⟨u, v, hexec⟩ := hanswers
    exact ⟨_, hexec, rfl, errBus_of_exec hexec rfl⟩

theorem w1c_w1c (old written setInB : Bool) : w1c (w1c old written setInB) written setInB = w1c old written setInB := by
  simp [w1c]

/-- Acknowledging the same flags again clears nothing more. -/
theorem ack_ack (st : Status) (d : Word) (doneSetB : Bool) : (st.ack d doneSetB).ack d doneSetB = st.ack d doneSetB := by
  simp only [Status.ack, w1c_w1c]

theorem exec_decodeRead_idem {r : Reg} {s t : State} (h : exec (decodeRead r) s = .next t) :
    exec (decodeRead r) t = .next t := by
  rw [exec_decodeRead] at h
  obtain rfl : s.answer (regImage s r) = t := by injection h
  rw [exec_decodeRead, regImage_answer]
  rfl

/-- A register other than STATUS takes the same value from the same DATA; STATUS has nothing more to clear. -/
theorem exec_decodeWrite_idem {d : Word} {r : Reg} {s t : State} (hr : r ≠ .cmd)
    (h : exec (decodeWrite d r) s = .next t) : exec (decodeWrite d r) t = .next t := by
  cases r
  case cmd => exact absurd rfl hr
  case status =>
    obtain rfl : (s.acknowledge d).answer 0#32 = t := by injection h
    have hstatus := ack_ack s.status d s.doneSetB
    exact congrArg (fun st => Host.Outcome.next { (s.acknowledge d).answer 0#32 with status := st }) hstatus
  all_goals
    injection h with h
    subst h
    rfl

/-- Settles O20: a read leaves the image it answers, and a write leaves nothing that its repetition would change. -/
theorem accessesAreIdempotent : Obligations.AccessesAreIdempotent := by
  refine ⟨fun s r => exec_decodeRead r s, fun s t d r i hi h => ?_⟩
  rcases hi with rfl | ⟨hr, rfl⟩
  · exact exec_decodeRead_idem h
  · exact exec_decodeWrite_idem hr h

end Sys2Proof.Machine
end

section
/-! Reserved bits (20_memory.md R85): a field of `n` bits stands in the low bits of its register, with zeros above, and a write
takes the low `n` bits of DATA alone. -/

namespace Sys2Proof.Machine

/-- The bits of a word that a field of `n` low bits takes. -/
def fieldMask (n : Nat) : Word := zext32 (BitVec.allOnes n)

theorem getLsbD_and_fieldMask (d : Word) {n k : Nat} (hk : k < n) : (d &&& fieldMask n).getLsbD k = d.getLsbD k := by
  have hhigh : 32 ≤ k → d.getLsbD k = false := d.getLsbD_of_ge k
  by_cases h : k < 32
  · simp [fieldMask, zext32, hk, h]
  · simp [hhigh (Nat.le_of_not_lt h), fieldMask]

theorem extractLsb'_and_fieldMask (d : Word) (n : Nat) : (d &&& fieldMask n).extractLsb' 0 n = d.extractLsb' 0 n := by
  ext k hk
  simpa using getLsbD_and_fieldMask d hk

/-- The bits of STATUS that a write reads all lie below the reserved ones. -/
theorem ack_and_fieldMask (st : Status) (d : Word) (doneSetB : Bool) :
    st.ack (d &&& fieldMask 16) doneSetB = st.ack d doneSetB := by
  simp (disch := decide) only [Status.ack, getLsbD_and_fieldMask]

theorem zext32_ushiftRight {n : Nat} (v : BitVec n) : zext32 v >>> n = 0#32 := by
  ext k hk
  simp [zext32]

theorem image_ushiftRight (st : Status) : st.image >>> 16 = 0#32 := by
  rw [BitVec.ushiftRight_eq_extractLsb'_of_lt (by decide), image_reserved]
  rfl

/-- Settles O17: each reserved bit lies above its register's field, on a read by `zext32_ushiftRight` and on a write by
`extractLsb'_and_fieldMask`; STATUS has its own lemmas. -/
theorem readOnlyAndReservedIgnoreWrites : Obligations.ReadOnlyAndReservedIgnoreWrites := by
  refine ⟨fun s d => ?_, fun s => ?_, fun s d => ?_⟩
  · exact ⟨rfl, rfl, rfl, rfl, rfl, rfl, rfl, rfl, rfl, rfl, rfl, rfl⟩
  · exact ⟨image_ushiftRight _, zext32_ushiftRight _, zext32_ushiftRight _, zext32_ushiftRight _, zext32_ushiftRight _,
      zext32_ushiftRight _, zext32_ushiftRight _, zext32_ushiftRight _, zext32_ushiftRight _, zext32_ushiftRight _,
      zext32_ushiftRight _⟩
  · have h16 : (0xFFFF#32 : Word) = fieldMask 16 := rfl
    have h1 : (1#32 : Word) = fieldMask 1 := rfl
    have h18 : (0x3FFFF#32 : Word) = fieldMask 18 := rfl
    rw [h16, h1, h18]
    refine ⟨?_, ?_, ?_, ?_, ?_⟩
    · exact congrArg (fun st => writeDone { s with status := st }) (ack_and_fieldMask s.status d s.doneSetB).symm
    · exact congrArg (fun b => writeDone { s with doneIe := b }) (getLsbD_and_fieldMask d Nat.one_pos).symm
    · exact congrArg (fun v => writeDone { s with swd.tstart := v }) (extractLsb'_and_fieldMask d 16).symm
    · exact congrArg (fun v => writeDone { s with swd.timeout := v }) (extractLsb'_and_fieldMask d 16).symm
    · exact congrArg (fun v => writeDone { s with pic.luxIn := v }) (extractLsb'_and_fieldMask d 18).symm

end Sys2Proof.Machine
end

section
/-! A byte offset by its place in the map (20_memory.md R83, R84): the tests of the decoder, of `Instr.wellFormed` and of the
opcode table as ranges of numbers, so that they exclude and exhaust each other by arithmetic. -/

namespace Sys2Proof

theorem getLsbD_zero_iff : ∀ addr : Byte, addr.getLsbD 0 = true ↔ addr.toNat % 2 = 1 := by decide

theorem getLsbD_one_iff : ∀ addr : Byte, addr.getLsbD 1 = true ↔ 2 ≤ addr.toNat % 4 := by decide

theorem getLsbD_seven_iff : ∀ addr : Byte, addr.getLsbD 7 = true ↔ 0x80 ≤ addr.toNat := by decide

theorem and_one_iff : ∀ addr : Byte, addr &&& 0x01#8 = 0x01#8 ↔ addr.toNat % 2 = 1 := by decide

theorem and_two_iff : ∀ addr : Byte, addr &&& 0x02#8 = 0x02#8 ↔ 2 ≤ addr.toNat % 4 := by decide

theorem and_80_iff : ∀ addr : Byte, addr &&& 0x80#8 = 0x80#8 ↔ 0x80 ≤ addr.toNat := by decide

theorem and_fc_iff : ∀ addr : Byte, addr &&& 0xFC#8 = 0x54#8 ↔ 0x54 ≤ addr.toNat ∧ addr.toNat < 0x58 := by decide

theorem and_f8_iff : ∀ addr : Byte, addr &&& 0xF8#8 = 0x58#8 ↔ 0x58 ≤ addr.toNat ∧ addr.toNat < 0x60 := by decide

theorem and_e0_iff : ∀ addr : Byte, addr &&& 0xE0#8 = 0x60#8 ↔ 0x60 ≤ addr.toNat ∧ addr.toNat < 0x80 := by decide

theorem alignedAddr_iff : ∀ addr : Byte, alignedAddr addr = true ↔ addr.toNat % 4 = 0 := by decide

theorem ofOffset_eq_none_iff_toNat : ∀ addr : Byte,
    Reg.ofOffset addr = none ↔ addr.toNat % 4 ≠ 0 ∨ 0x50 < addr.toNat := by decide

/-- The six BUS_ERROR rows by the ranges of their offsets. -/
theorem decodeBusError_eq (we : Bool) (addr : Byte) (data : Word) :
    decodeBusError we addr data =
      if addr.toNat % 2 = 1 then .busErrorOdd we addr data
      else if 2 ≤ addr.toNat % 4 then .busErrorHalf we addr data
      else if 0x54 ≤ addr.toNat ∧ addr.toNat < 0x58 then .busErrorUnmapped54 we addr data
      else if 0x58 ≤ addr.toNat ∧ addr.toNat < 0x60 then .busErrorUnmapped58 we addr data
      else if 0x60 ≤ addr.toNat ∧ addr.toNat < 0x80 then .busErrorUnmapped60 we addr data
      else .busErrorUnmapped80 we addr data := by
  simp only [decodeBusError, getLsbD_zero_iff, getLsbD_one_iff, and_fc_iff, and_f8_iff, and_e0_iff]

theorem encode_decodeBusError (we : Bool) (addr : Byte) (data : Word) :
    encode (decodeBusError we addr data) = packTW we addr data := by
  unfold decodeBusError
  split_ifs <;> rfl

theorem row_decodeBusError_le (we : Bool) (addr : Byte) (data : Word) : (decodeBusError we addr data).row ≤ 6 := by
  unfold decodeBusError
  split_ifs <;> simp [Instr.row]

/-- A BUS_ERROR constructor is well-formed at the offsets of its own row that no earlier row takes. -/
theorem wellFormed_busError_iff (we : Bool) (addr : Byte) (data : Word) :
    ((Instr.busErrorOdd we addr data).wellFormed = true ↔ addr.toNat % 2 = 1) ∧
    ((Instr.busErrorHalf we addr data).wellFormed = true ↔ addr.toNat % 4 = 2) ∧
    ((Instr.busErrorUnmapped54 we addr data).wellFormed = true ↔
      addr.toNat % 4 = 0 ∧ 0x54 ≤ addr.toNat ∧ addr.toNat < 0x58) ∧
    ((Instr.busErrorUnmapped58 we addr data).wellFormed = true ↔
      addr.toNat % 4 = 0 ∧ 0x58 ≤ addr.toNat ∧ addr.toNat < 0x60) ∧
    ((Instr.busErrorUnmapped60 we addr data).wellFormed = true ↔
      addr.toNat % 4 = 0 ∧ 0x60 ≤ addr.toNat ∧ addr.toNat < 0x80) ∧
    ((Instr.busErrorUnmapped80 we addr data).wellFormed = true ↔ addr.toNat % 4 = 0 ∧ 0x80 ≤ addr.toNat) := by
  simp only [Instr.wellFormed, Bool.and_eq_true, Bool.not_eq_true', ← Bool.not_eq_true, beq_iff_eq, getLsbD_zero_iff,
    getLsbD_one_iff, getLsbD_seven_iff, alignedAddr_iff, and_fc_iff, and_f8_iff, and_e0_iff, true_and, and_true]
  omega

/-- An offset without a register lies in the range of the row it decodes to. -/
theorem wellFormed_decodeBusError {addr : Byte} (hnone : Reg.ofOffset addr = none) (we : Bool) (data : Word) :
    (decodeBusError we addr data).wellFormed = true := by
  rw [ofOffset_eq_none_iff_toNat] at hnone
  rw [decodeBusError_eq]
  split_ifs <;> simp only [wellFormed_busError_iff] <;> omega

end Sys2Proof
end

section
/-! Decoding and encoding are inverse to each other (30_encoding.md R101 to R104): by the register at the offset, and for a
write of CMD by its command word. -/

namespace Sys2Proof

open Machine

/-- A write of CMD carries one of the five command words of R103 or a word above them. -/
theorem commandWord_cases (data : Word) :
    4 < data.toNat ∨ data = 0#32 ∨ data = 1#32 ∨ data = 2#32 ∨ data = 3#32 ∨ data = 4#32 := by
  bv_omega

/-- The two conditions of ILLEGAL_CMD on DATA (40_cycle_and_bus.md R143) say that it is above the command words. -/
theorem illegalData_iff (data : Word) :
    (data.extractLsb' 8 24 ≠ 0#24 ∨ 4 < (data.extractLsb' 0 8).toNat) ↔ 4 < data.toNat := by
  have hhigh : (data.extractLsb' 8 24).toNat = data.toNat / 2 ^ 8 % 2 ^ 24 := by
    rw [BitVec.extractLsb'_toNat, Nat.shiftRight_eq_div_pow]
  have hlow : (data.extractLsb' 0 8).toNat = data.toNat % 2 ^ 8 := by
    rw [BitVec.extractLsb'_toNat, Nat.shiftRight_zero]
  have hlt := data.isLt
  rw [Ne, ← BitVec.toNat_inj, hhigh, hlow, BitVec.toNat_ofNat]
  omega

theorem wellFormed_illegalCmd_iff (data : Word) : (Instr.illegalCmd data).wellFormed = true ↔ 4 < data.toNat := by
  rw [← illegalData_iff]
  simp [Instr.wellFormed]

theorem decodeCommand_of_lt {data : Word} (h : 4 < data.toNat) : decodeCommand data = .illegalCmd data := by
  unfold decodeCommand
  split
  case h_6 => rfl
  all_goals omega

@[simp] theorem wellFormed_decodeRead (r : Reg) : (decodeRead r).wellFormed = true := by cases r <;> rfl

@[simp] theorem encode_decodeRead (r : Reg) : encode (decodeRead r) = packTW false r.offset 0#32 := by cases r <;> rfl

theorem wellFormed_decodeCommand (data : Word) : (decodeCommand data).wellFormed = true := by
  rcases commandWord_cases data with habove | rfl | rfl | rfl | rfl | rfl
  · rw [decodeCommand_of_lt habove]
    exact (wellFormed_illegalCmd_iff data).2 habove
  all_goals rfl

theorem encode_decodeCommand (data : Word) : encode (decodeCommand data) = packTW true 0x00#8 data := by
  rcases commandWord_cases data with habove | rfl | rfl | rfl | rfl | rfl
  · rw [decodeCommand_of_lt habove, encode]
  all_goals rfl

@[simp] theorem wellFormed_decodeWrite (data : Word) (r : Reg) : (decodeWrite data r).wellFormed = true := by
  cases r
  case cmd => exact wellFormed_decodeCommand data
  all_goals rfl

@[simp] theorem encode_decodeWrite (data : Word) (r : Reg) :
    encode (decodeWrite data r) = packTW true r.offset data := by
  cases r
  case cmd => exact encode_decodeCommand data
  all_goals rfl

/-- A BUS_ERROR constructor is well-formed at the offsets of its own row, and of no earlier one; the operands of the others are
free, but for the DATA of ILLEGAL_CMD. -/
theorem decodeTW_encode {i : Instr} (h : i.wellFormed = true) : decodeTW (encode i) = i := by
  cases i
  case busErrorOdd we addr data | busErrorHalf we addr data | busErrorUnmapped54 we addr data |
      busErrorUnmapped58 we addr data | busErrorUnmapped60 we addr data | busErrorUnmapped80 we addr data =>
    simp only [wellFormed_busError_iff] at h
    have hnone : Reg.ofOffset addr = none := by
      rw [ofOffset_eq_none_iff_toNat]
      omega
    rw [encode, decodeTW_packTW, decodeFields, hnone]
    simp (disch := omega) only [decodeBusError_eq, if_pos, if_neg]
  case illegalCmd data =>
    rw [encode, decodeTW_packTW]
    exact decodeCommand_of_lt ((wellFormed_illegalCmd_iff data).1 h)
  all_goals exact decodeTW_packTW _ _ _

theorem decodeBytes_leBytes (tw : TW) : decodeBytes (leBytes 6 tw.toNat) = .ok (decodeTW tw) := by
  have hbytes : leNat (leBytes 6 tw.toNat) = tw.toNat := leNat_leBytes 6 _ (by omega)
  simp [decodeBytes, hbytes, tw.isLt]

theorem decodeTableWord_toNat (tw : TW) : decodeTableWord 48 tw.toNat = some (decodeTW tw) := by
  have hlt : tw.toNat < 2 ^ 48 := by omega
  rw [decodeTableWord, Nat.mod_eq_of_lt hlt, if_pos hlt, decodeBytes_leBytes]
  rfl

/-- Settles O1: the bytes and the table word of an instruction hold its word, and `decodeTW_encode`. -/
theorem decodeOfEncodeIsIdentity : Obligations.DecodeOfEncodeIsIdentity := by
  intro i h
  have hword := decodeTW_encode h
  refine ⟨hword, ?_, ?_⟩
  · rw [encodeBytes, decodeBytes_leBytes, hword]
  · rw [decodeTableWord_toNat, hword]

theorem canonicalTW_of_none {tw : TW} (h : Reg.ofOffset (addrOf tw) = none) : canonicalTW tw = tw := by
  unfold canonicalTW
  rw [h]
  cases weOf tw <;> rfl

theorem canonicalTW_of_some {tw : TW} {r : Reg} (h : Reg.ofOffset (addrOf tw) = some r) :
    canonicalTW tw = if weOf tw then tw else packTW false r.offset 0#32 := by
  unfold canonicalTW
  rw [h, offset_of_ofOffset _ r h]
  cases weOf tw <;> rfl

/-- Settles O2: a bus error and a write keep the fields of the word, a read of a mapped register its offset. -/
theorem encodeOfDecodeIsCanonical : Obligations.EncodeOfDecodeIsCanonical := by
  intro tw
  cases hreg : Reg.ofOffset (addrOf tw) with
  | none =>
    rw [decodeTW_of_none hreg, canonicalTW_of_none hreg, encode_decodeBusError, packTW_fields]
    exact ⟨wellFormed_decodeBusError hreg _ _, rfl⟩
  | some r =>
    rw [decodeTW_of_some hreg, canonicalTW_of_some hreg]
    cases hwe : weOf tw with
    | false => exact ⟨wellFormed_decodeRead r, encode_decodeRead r⟩
    | true =>
      have hfields : packTW true r.offset (dataOf tw) = tw := by
        rw [offset_of_ofOffset _ r hreg, ← hwe, packTW_fields]
      exact ⟨wellFormed_decodeWrite _ r, (encode_decodeWrite _ r).trans hfields⟩

/-- Settles O4, by evaluating the decoder on each word. -/
theorem specWordsDecode : Obligations.SpecWordsDecode := by
  unfold Obligations.SpecWordsDecode
  decide

end Sys2Proof
end

section
/-! The opcode table (30_encoding.md R104, spec/opcode_table.json) by its families: the BUS_ERROR rows, one row for the read and
one for the write of each register, the write of CMD being ILLEGAL_CMD, and one row for each command word. -/

namespace Sys2Proof

open Machine

/-- The BUS_ERROR rows, priorities 1 to 6: masks over bits of ADDR alone. -/
def busErrorRow (p : Nat) (mask pattern : Byte) : OpcodeRow := ⟨p, packTW false mask 0#32, packTW false pattern 0#32⟩

def busErrorRows : List OpcodeRow :=
  [busErrorRow 1 0x01#8 0x01#8, busErrorRow 2 0x02#8 0x02#8, busErrorRow 3 0xFC#8 0x54#8, busErrorRow 4 0xF8#8 0x58#8,
    busErrorRow 5 0xE0#8 0x60#8, busErrorRow 6 0x80#8 0x80#8]

/-- The registers in the order of the map (10_state.md R32). -/
def allRegs : List Reg :=
  [.cmd, .status, .irqEn, .swdEdges, .swdHumid, .swdTemp, .swdCsum, .swdTstart, .swdTimeout, .ts, .picS, .picD, .picA,
    .picHour, .picLuxin, .picConsigne, .picLux, .picLuxraw, .picInteg, .picOutput, .picPwm]

/-- The row of an access to a register, whatever its DATA. -/
def accessRow (we : Bool) (p : Nat) (r : Reg) : OpcodeRow := ⟨p, packTW true 0xFF#8 0#32, packTW we r.offset 0#32⟩

/-- The row of the read of a register, priorities 7 to 27. -/
def readRow (r : Reg) : OpcodeRow := accessRow false (decodeRead r).row r

/-- The row of the write of a register, priorities 33 to 53: a write of CMD that no command row takes is ILLEGAL_CMD. -/
def writeRow (r : Reg) : OpcodeRow := accessRow true ((decodeRead r).row + 26) r

/-- The row of a command word, priorities 28 to 32. -/
def commandRow (data : Word) : OpcodeRow :=
  ⟨(decodeCommand data).row, packTW true 0xFF#8 (BitVec.allOnes 32), packTW true 0x00#8 data⟩

/-- The command words (30_encoding.md R103). -/
def commandWords : List Word := [0#32, 1#32, 2#32, 3#32, 4#32]

theorem commandWords_le : ∀ c ∈ commandWords, c.toNat ≤ 4 := by simp [commandWords]

theorem opcodeRows_eq :
    opcodeRows = busErrorRows ++ (allRegs.map readRow ++ (commandWords.map commandRow ++ allRegs.map writeRow)) := by
  decide

theorem offset_eq_zero_iff (r : Reg) : r.offset = 0x00#8 ↔ r = .cmd := by cases r <;> decide

theorem packTW_and (we we' : Bool) (addr addr' : Byte) (data data' : Word) :
    packTW we addr data &&& packTW we' addr' data' = packTW (we && we') (addr &&& addr') (data &&& data') := by
  have h : (BitVec.ofBool we ++ addr ++ data) &&& (BitVec.ofBool we' ++ addr' ++ data') =
      BitVec.ofBool (we && we') ++ (addr &&& addr') ++ (data &&& data') := by
    rw [BitVec.and_append, BitVec.and_append, BitVec.ofBool_and_ofBool]
  exact h

theorem packTW_inj {we we' : Bool} {addr addr' : Byte} {data data' : Word} :
    packTW we addr data = packTW we' addr' data' ↔ we = we' ∧ addr = addr' ∧ data = data' := by
  refine ⟨fun h => ?_, fun ⟨hwe, haddr, hdata⟩ => by rw [hwe, haddr, hdata]⟩
  exact ⟨by simpa using congrArg weOf h, by simpa using congrArg addrOf h, by simpa using congrArg dataOf h⟩

/-- A row is matched field by field. -/
theorem hit_packTW_iff (p : Nat) (mwe pwe we : Bool) (maddr paddr addr : Byte) (mdata pdata data : Word) :
    OpcodeRow.hit ⟨p, packTW mwe maddr mdata, packTW pwe paddr pdata⟩ (packTW we addr data) = true ↔
      (we && mwe) = pwe ∧ addr &&& maddr = paddr ∧ data &&& mdata = pdata := by
  rw [OpcodeRow.hit, beq_iff_eq, packTW_and, packTW_inj]

section

variable (we : Bool) (addr : Byte) (data : Word)

theorem hit_busErrorRow (p : Nat) (mask pattern : Byte) :
    (busErrorRow p mask pattern).hit (packTW we addr data) = (addr &&& mask == pattern) := by
  rw [Bool.eq_iff_iff, busErrorRow, hit_packTW_iff]
  simp

theorem hit_accessRow (w : Bool) (p : Nat) (r : Reg) :
    (accessRow w p r).hit (packTW we addr data) = (we == w && r.offset == addr) := by
  have hmask : addr &&& 0xFF#8 = addr := BitVec.and_allOnes
  rw [Bool.eq_iff_iff, accessRow, hit_packTW_iff, hmask]
  simp [eq_comm (a := addr)]

theorem hit_commandRow (c : Word) :
    (commandRow c).hit (packTW we addr data) = (we && addr == 0x00#8 && data == c) := by
  have hmask : addr &&& 0xFF#8 = addr := BitVec.and_allOnes
  rw [Bool.eq_iff_iff, commandRow, hit_packTW_iff, hmask, BitVec.and_allOnes]
  simp [and_assoc]

theorem find_allRegs : ∀ addr : Byte, allRegs.find? (fun r => r.offset == addr) = Reg.ofOffset addr := by decide

theorem find_accessRows (w : Bool) (p : Reg → Nat) :
    (allRegs.map fun r => accessRow w (p r) r).find? (fun row => row.hit (packTW we addr data)) =
      if we = w then (Reg.ofOffset addr).map fun r => accessRow w (p r) r else none := by
  rw [List.find?_map]
  simp only [Function.comp_def, hit_accessRow]
  by_cases hwe : we = w
  · subst hwe
    simp only [beq_self_eq_true, Bool.true_and, find_allRegs, if_pos]
  · simp [hwe]

/-- The first BUS_ERROR row of a word, by the range of its offset. -/
theorem find_busErrorRows :
    (busErrorRows.find? fun row => row.hit (packTW we addr data)) =
      if addr.toNat % 2 = 1 then some (busErrorRow 1 0x01#8 0x01#8)
      else if 2 ≤ addr.toNat % 4 then some (busErrorRow 2 0x02#8 0x02#8)
      else if 0x54 ≤ addr.toNat ∧ addr.toNat < 0x58 then some (busErrorRow 3 0xFC#8 0x54#8)
      else if 0x58 ≤ addr.toNat ∧ addr.toNat < 0x60 then some (busErrorRow 4 0xF8#8 0x58#8)
      else if 0x60 ≤ addr.toNat ∧ addr.toNat < 0x80 then some (busErrorRow 5 0xE0#8 0x60#8)
      else if 0x80 ≤ addr.toNat then some (busErrorRow 6 0x80#8 0x80#8)
      else none := by
  simp only [busErrorRows, List.find?_cons, List.find?_nil, hit_busErrorRow, ← and_one_iff, ← and_two_iff, ← and_fc_iff,
    ← and_f8_iff, ← and_e0_iff, ← and_80_iff, ← beq_iff_eq (α := Byte), ← Bool.cond_eq_ite]
  rfl

theorem find_busErrorRows_of_none (hnone : Reg.ofOffset addr = none) :
    (busErrorRows.find? fun row => row.hit (packTW we addr data)).map OpcodeRow.priority =
      some (decodeBusError we addr data).row := by
  rw [ofOffset_eq_none_iff_toNat] at hnone
  rw [find_busErrorRows, decodeBusError_eq]
  split_ifs
  case neg => omega
  all_goals rfl

theorem find_busErrorRows_of_some {r : Reg} (hreg : Reg.ofOffset addr = some r) :
    (busErrorRows.find? fun row => row.hit (packTW we addr data)) = none := by
  have hmapped : ¬(addr.toNat % 4 ≠ 0 ∨ 0x50 < addr.toNat) := by
    rw [← ofOffset_eq_none_iff_toNat, hreg]
    exact Option.some_ne_none r
  rw [find_busErrorRows]
  simp (disch := omega) only [if_neg]

theorem find_commandWords :
    (commandWords.find? fun c => data == c) = if data.toNat ≤ 4 then some data else none := by
  rcases commandWord_cases data with habove | rfl | rfl | rfl | rfl | rfl
  · rw [if_neg (Nat.not_le.2 habove), List.find?_eq_none]
    intro c hc heq
    exact Nat.not_le.2 habove (eq_of_beq heq ▸ commandWords_le c hc)
  all_goals rfl

theorem find_commandRows :
    ((commandWords.map commandRow).find? fun row => row.hit (packTW we addr data)) =
      if we = true ∧ addr = 0x00#8 ∧ data.toNat ≤ 4 then some (commandRow data) else none := by
  rw [List.find?_map]
  simp only [Function.comp_def, hit_commandRow]
  by_cases hcmd : we = true ∧ addr = 0x00#8
  · obtain ⟨rfl, rfl⟩ := hcmd
    simp only [beq_self_eq_true, Bool.true_and, find_commandWords, true_and]
    split_ifs <;> rfl
  · have hfields : (we && addr == 0x00#8) = false := by
      rwa [Bool.eq_false_iff, Ne, Bool.and_eq_true, beq_iff_eq]
    rw [if_neg fun ⟨hwe, haddr, _⟩ => hcmd ⟨hwe, haddr⟩]
    simp only [hfields, Bool.false_and]
    rfl

/-- The row of the write of a register is that of the instruction it decodes to, unless a command row takes the word. -/
theorem row_decodeWrite {r : Reg} (h : r = .cmd → 4 < data.toNat) :
    (decodeWrite data r).row = (decodeRead r).row + 26 := by
  cases r
  case cmd => rw [decodeWrite, decodeCommand_of_lt (h rfl)]; rfl
  all_goals rfl

theorem firstRow_packTW :
    firstRow (packTW we addr data) =
      (busErrorRows.find? fun row => row.hit (packTW we addr data)).or
        ((if we = false then (Reg.ofOffset addr).map readRow else none).or
          ((if we = true ∧ addr = 0x00#8 ∧ data.toNat ≤ 4 then some (commandRow data) else none).or
            (if we = true then (Reg.ofOffset addr).map writeRow else none))) := by
  have hread : ((allRegs.map readRow).find? fun row => row.hit (packTW we addr data)) =
      if we = false then (Reg.ofOffset addr).map readRow else none := find_accessRows we addr data false _
  have hwrite : ((allRegs.map writeRow).find? fun row => row.hit (packTW we addr data)) =
      if we = true then (Reg.ofOffset addr).map writeRow else none := find_accessRows we addr data true _
  rw [firstRow, opcodeRows_eq, List.find?_append, List.find?_append, List.find?_append, hread, hwrite, find_commandRows]

variable {addr} {r : Reg}

theorem firstRow_read (hreg : Reg.ofOffset addr = some r) : firstRow (packTW false addr data) = some (readRow r) := by
  rw [firstRow_packTW, find_busErrorRows_of_some _ _ _ hreg, hreg]
  rfl

theorem firstRow_command {data : Word} (h : data.toNat ≤ 4) :
    firstRow (packTW true Reg.cmd.offset data) = some (commandRow data) := by
  have hyes : true = true ∧ Reg.cmd.offset = 0x00#8 ∧ data.toNat ≤ 4 := ⟨rfl, rfl, h⟩
  rw [firstRow_packTW, find_busErrorRows_of_some _ _ _ (ofOffset_offset .cmd), if_pos hyes]
  rfl

theorem firstRow_write {data : Word} (hreg : Reg.ofOffset addr = some r) (h : r = .cmd → 4 < data.toNat) :
    firstRow (packTW true addr data) = some (writeRow r) := by
  have hno : ¬(true = true ∧ addr = 0x00#8 ∧ data.toNat ≤ 4) := fun ⟨_, haddr, hle⟩ =>
    Nat.not_lt.2 hle (h ((offset_eq_zero_iff r).1 ((offset_of_ofOffset _ _ hreg).trans haddr)))
  rw [firstRow_packTW, find_busErrorRows_of_some _ _ _ hreg, if_neg hno, hreg]
  rfl

/-- The first row of a word is the row of the constructor it decodes to. -/
theorem priority_firstRow (we : Bool) (addr : Byte) (data : Word) :
    (firstRow (packTW we addr data)).map OpcodeRow.priority = some (decodeFields we addr data).row := by
  rw [decodeFields]
  cases hreg : Reg.ofOffset addr with
  | none =>
    obtain ⟨row, hrow, hp⟩ := Option.map_eq_some_iff.1 (find_busErrorRows_of_none we addr data hreg)
    rw [firstRow_packTW, hrow, Option.some_or, Option.map_some, hp]
  | some r =>
    cases we with
    | false =>
      rw [firstRow_read data hreg]
      rfl
    | true =>
      by_cases hcmd : r = .cmd ∧ data.toNat ≤ 4
      · obtain ⟨rfl, hle⟩ := hcmd
        rw [← offset_of_ofOffset _ _ hreg, firstRow_command hle]
        rfl
      · have habove : r = .cmd → 4 < data.toNat := fun hr => Nat.not_le.1 fun hle => hcmd ⟨hr, hle⟩
        rw [firstRow_write hreg habove]
        exact congrArg some (row_decodeWrite data habove).symm

end

theorem decodeCommand_of_le {data : Word} (h : data.toNat ≤ 4) :
    [Instr.nop, .swdStart, .picSetpoint, .picLux, .picRegulate][data.toNat]? = some (decodeCommand data) := by
  rcases commandWord_cases data with habove | rfl | rfl | rfl | rfl | rfl
  · omega
  all_goals rfl

/-- Settles O3: the row by `priority_firstRow`, the rest by the register at the offset. -/
theorem decodeFollowsThePrecedence : Obligations.DecodeFollowsThePrecedence := by
  intro tw
  refine ⟨?_, ?_⟩
  · have hfirst := priority_firstRow (weOf tw) (addrOf tw) (dataOf tw)
    rw [packTW_fields] at hfirst
    exact Option.map_eq_some_iff.1 hfirst
  cases hreg : Reg.ofOffset (addrOf tw) with
  | none =>
    rw [if_pos ((ofOffset_eq_none _).1 hreg), decodeTW_of_none hreg, encode_decodeBusError, packTW_fields]
    exact ⟨row_decodeBusError_le _ _ _, rfl⟩
  | some r =>
    have hmapped : Reg.ofOffset (addrOf tw) ≠ none := by simp [hreg]
    have hoffset := offset_of_ofOffset _ r hreg
    rw [if_neg (mt (ofOffset_eq_none _).2 hmapped), decodeTW_of_some hreg]
    refine ⟨r, hoffset, ?_⟩
    cases hwe : weOf tw with
    | false => rfl
    | true =>
      rw [if_neg Bool.true_eq_false.mp, if_pos rfl]
      by_cases hcmd : r = .cmd
      · subst hcmd
        have hzero : addrOf tw = 0x00#8 := hoffset.symm
        rw [if_pos hzero]
        split_ifs with hillegal
        · exact decodeCommand_of_lt ((illegalData_iff _).1 hillegal)
        · exact decodeCommand_of_le (Nat.not_lt.1 (mt (illegalData_iff _).2 hillegal))
      · rw [if_neg fun hzero => hcmd ((offset_eq_zero_iff r).1 (hoffset.trans hzero))]
        exact ⟨hcmd, rfl⟩

end Sys2Proof
end

section
/-! Runs of several cycles: the first cycle and the rest. -/

namespace Sys2Proof.Machine

theorem run_succ_iff {n : Nat} {s t : State} :
    run (n + 1) s = .next t ↔ ∃ u, step s = .next u ∧ run n u = .next t := by
  cases hstep : step s <;> simp [run, hstep]

theorem NoReset.head {n : Nat} {s : State} (h : NoReset (n + 1) s) : s.nextInput.rst = false :=
  h 0 n.succ_pos s rfl

theorem NoReset.tail {n : Nat} {s u : State} (h : NoReset (n + 1) s) (hstep : step s = .next u) : NoReset n u :=
  fun k hk t hrun => h (k + 1) (Nat.succ_lt_succ hk) t (run_succ_iff.2 ⟨u, hstep, hrun⟩)

end Sys2Proof.Machine
end

section
/-! The clock of microseconds (40_cycle_and_bus.md R131, R132, R293): with TS, S.PRESC is the remainder of a division by
CLK_PER_US whose quotient TS counts, cycle by cycle. -/

namespace Sys2Proof.Machine

/-- Phase (a) divides: the quotient of the new count goes to TS and the remainder stays in S.PRESC. -/
theorem internalPhases_time_divides {s : State} (hs : s.timeOk) (dq : Bool) :
    (s.internalPhases dq).presc = (s.presc + 1) % s.cfg.clkPerUs ∧
    (s.internalPhases dq).ts = s.ts + BitVec.ofNat 32 ((s.presc + 1) / s.cfg.clkPerUs) := by
  obtain ⟨hclk, hpresc⟩ := hs
  obtain ⟨hnext, hts⟩ := internalPhases_time s dq
  rw [hnext, hts]
  by_cases htick : s.usTick = true
  · have hwrap : s.presc + 1 = s.cfg.clkPerUs := by
      rw [usTick_iff] at htick
      omega
    rw [if_pos htick, if_pos htick, hwrap, Nat.mod_self, Nat.div_self hclk]
    exact ⟨rfl, rfl⟩
  · have hlt : s.presc + 1 < s.cfg.clkPerUs := by
      rw [usTick_iff] at htick
      omega
    rw [if_neg htick, if_neg htick, Nat.mod_eq_of_lt hlt, Nat.div_eq_of_lt hlt]
    exact ⟨rfl, (BitVec.add_zero _).symm⟩

theorem step_time_divides {s t : State} (hs : s.timeOk) (hrst : s.nextInput.rst = false) (h : step s = .next t) :
    t.presc = (s.presc + 1) % s.cfg.clkPerUs ∧
    t.ts = s.ts + BitVec.ofNat 32 ((s.presc + 1) / s.cfg.clkPerUs) := by
  have hphases := internalPhases_time_divides hs s.nextInput.dqIn
  rcases step_cases_of_no_reset hrst h with ⟨-, rfl⟩ | ⟨tw, -, hexec⟩
  · exact hphases
  · obtain ⟨-, hts, hpresc, -⟩ := exec_frame _ _ _ hexec
    rw [hts, hpresc]
    exact hphases

/-- Counting one cycle and then `n` more divides as counting `n + 1` does. -/
theorem div_add_mod_add_div (a n m : Nat) : a / m + (a % m + n) / m = (a + n) / m := by
  rcases m.eq_zero_or_pos with rfl | hm
  · simp
  · calc a / m + (a % m + n) / m = (a % m + n + m * (a / m)) / m := by
          rw [Nat.add_mul_div_left _ _ hm, Nat.add_comm]
      _ = (a + n) / m := by rw [Nat.add_right_comm, Nat.mod_add_div]

theorem run_time_divides {n : Nat} {s t : State} (hs : s.timeOk) (hrst : NoReset n s) (h : run n s = .next t) :
    t.presc = (s.presc + n) % s.cfg.clkPerUs ∧
    t.ts = s.ts + BitVec.ofNat 32 ((s.presc + n) / s.cfg.clkPerUs) := by
  induction n generalizing s with
  | zero =>
    obtain ⟨-, hpresc⟩ := hs
    obtain rfl : s = t := by injection h
    rw [Nat.add_zero, Nat.mod_eq_of_lt hpresc, Nat.div_eq_of_lt hpresc]
    exact ⟨rfl, (BitVec.add_zero _).symm⟩
  | succ n ih =>
    obtain ⟨u, hstep, hrun⟩ := run_succ_iff.1 h
    obtain ⟨hpresc, hts⟩ := step_time_divides hs hrst.head hstep
    obtain ⟨hpresc', hts'⟩ := ih (stepKeepsTimeBase s u hs hstep) (hrst.tail hstep) hrun
    rw [step_cfg hstep, hpresc] at hpresc' hts'
    have hcount : s.presc + (n + 1) = s.presc + 1 + n := by omega
    rw [hcount]
    refine ⟨hpresc'.trans (Nat.mod_add_mod _ _ _), hts'.trans ?_⟩
    rw [hts, BitVec.add_assoc, ← BitVec.ofNat_add, div_add_mod_add_div]

/-- Settles O10: the division of `run_time_divides`, from S.PRESC = TS = 0 for the run from reset. -/
theorem timestampCountsMicroseconds : Obligations.TimestampCountsMicroseconds := by
  refine ⟨fun n s t hs hrst h => run_time_divides hs hrst h, fun cfg ps c k t hclk hrst h => ?_⟩
  have htime : State.timeOk { State.resetWith cfg with pending := ps, cycle := c } := ⟨hclk, hclk⟩
  obtain ⟨-, hts⟩ := run_time_divides htime hrst h
  simpa [State.resetWith] using hts

end Sys2Proof.Machine
end

section
/-! The cycle around its transaction (40_cycle_and_bus.md R130, R133): the word it decodes to, and the commands
whose cycle leaves what phases (a) and (b) leave, but for a flag (R142, R143). -/

namespace Sys2Proof.Machine

/-- Settles O5: by the step's own case, and decoding undoes encoding. -/
theorem stepRunsTheDecodedTransaction : Obligations.StepRunsTheDecodedTransaction := by
  refine ⟨step_of_request, fun s i hi hrst hreq => ?_⟩
  rw [step_of_request s _ hrst hreq, decodeTW_encode hi]

/-- Settles O6: phases (a) and (b) are that composition, and leave the response ports at 0. -/
theorem cycleWithoutTransaction : Obligations.CycleWithoutTransaction := by
  intro s hrst hreq
  obtain ⟨hrdata, hbusErr, hpwmWe, -⟩ := internalPhases_ports s s.nextInput.dqIn
  exact ⟨_, step_of_no_request s hrst hreq, rfl, hrdata, hbusErr, hpwmWe⟩

theorem step_of_write {s : State} {r : Reg} {d : Word} (hrst : s.nextInput.rst = false)
    (hreq : s.nextInput.req = some (packTW true r.offset d)) :
    step s = exec (decodeWrite d r) (s.internalPhases s.nextInput.dqIn) := by
  rw [step_of_request s _ hrst hreq, decodeTW_packTW, decodeFields, ofOffset_offset]
  rfl

/-- Phases (a) and (b) take the input record without reading its request. -/
theorem internalPhases_pending_head (s : State) (dq : Bool) (i j : Input) (rest : List Input) :
    { s with pending := i :: rest }.internalPhases dq = { s with pending := j :: rest }.internalPhases dq := rfl

/-- An answer of 0 to a state whose response is already 0 changes nothing. -/
theorem answer_zero_of_no_response {s : State} (hrdata : s.rdata = 0#32) (hbusErr : s.busErr = false) :
    s.answer 0#32 = s := by
  rw [State.answer, ← hrdata, ← hbusErr]

theorem internalPhases_answer_zero (s : State) (dq : Bool) : (s.internalPhases dq).answer 0#32 = s.internalPhases dq := by
  obtain ⟨hrdata, hbusErr, -⟩ := internalPhases_ports s dq
  exact answer_zero_of_no_response hrdata hbusErr

theorem step_of_nop {s : State} (hrst : s.nextInput.rst = false) (hreq : s.nextInput.req = some (encode .nop)) :
    step s = .next (s.internalPhases s.nextInput.dqIn) :=
  calc step s = .next ((s.internalPhases s.nextInput.dqIn).answer 0#32) :=
        stepRunsTheDecodedTransaction.2 s .nop rfl hrst hreq
    _ = .next (s.internalPhases s.nextInput.dqIn) := by rw [internalPhases_answer_zero]

/-- Settles O24: the cycle of NOP leaves what phases (a) and (b) leave, and these read no request. -/
theorem nopIsACycleWithoutTransaction : Obligations.NopIsACycleWithoutTransaction := by
  refine ⟨rfl, fun _ => rfl, fun s dq rest => ?_⟩
  rw [step_of_nop rfl rfl, step_of_no_request _ rfl rfl]
  exact congrArg Host.Outcome.next (internalPhases_pending_head s dq _ _ rest)

/-- Settles O25: a command word above 4 decodes to ILLEGAL_CMD, whose answer adds nothing to the record of its error. -/
theorem illegalCommandSetsItsFlag : Obligations.IllegalCommandSetsItsFlag := by
  refine ⟨fun d s => rfl, fun d s hd hrst hreq => ?_⟩
  obtain ⟨hrdata, hbusErr, -⟩ := internalPhases_ports s s.nextInput.dqIn
  have hdecode : decodeWrite d .cmd = .illegalCmd d := decodeCommand_of_lt ((illegalData_iff d).1 hd)
  calc step s = exec (.illegalCmd d) (s.internalPhases s.nextInput.dqIn) := by
        rw [step_of_write (r := .cmd) hrst hreq, hdecode]
    _ = .next (((s.internalPhases s.nextInput.dqIn).raise .illegalCommand).answer 0#32) := rfl
    _ = .next ((s.internalPhases s.nextInput.dqIn).raise .illegalCommand) :=
        congrArg _ (answer_zero_of_no_response hrdata hbusErr)

end Sys2Proof.Machine
end

section
/-! A read in the cycle of the event it reads (40_cycle_and_bus.md R136): a tick, a commit, a captured edge. -/

namespace Sys2Proof.Machine

/-- A cycle that starts in DECODING commits. -/
theorem internalPhases_of_decoding {s : State} (h : s.status.fsm = .decoding) (dq : Bool) :
    s.internalPhases dq = commit (edgePhase dq .decoding (timerPhase s.beginCycle)) := by
  rw [State.internalPhases, h]
  rfl

theorem edgeCaptured_iff (dq : Bool) (st0 : SwdState) (w : Swd) :
    edgeCaptured dq st0 w = true ↔ dq ≠ w.linePrev ∧ st0 = .listening ∧ w.edgeCount.toNat < 84 := by
  simp [edgeCaptured, and_assoc]

/-- A captured edge is counted in its cycle (41_edge_capture_decoder.md R162). -/
theorem internalPhases_edgeCount_of_captured {s : State} {dq : Bool}
    (h : edgeCaptured dq s.status.fsm s.swd = true) :
    (s.internalPhases dq).swd.edgeCount = s.swd.edgeCount + 1 := by
  obtain ⟨-, hlistening, -⟩ := (edgeCaptured_iff _ _ _).1 h
  rw [hlistening, edgeCaptured_iff] at h
  rw [State.internalPhases, hlistening, fsmPhase, listeningStep_eq]
  rcases edgePhase_cases dq .listening (timerPhase s.beginCycle) with ⟨-, -, -, heq⟩ | ⟨hnot, -⟩
  · obtain ⟨-, -, -, -, -, -, -, -, -, hcount, -⟩ := captureEdge_frame s.swd (timerPhase s.beginCycle).ts
    rw [heq]
    exact hcount
  · exact absurd h hnot

/-- Settles O15: a read answers from the state phases (a) and (b) leave, and leaves every register of it. -/
theorem readSeesItsOwnCycle : Obligations.ReadSeesItsOwnCycle := by
  intro s tw r hrst hreq hread
  have hstep := step_of_request s tw hrst hreq
  rw [hread, exec_decodeRead] at hstep
  refine ⟨_, hstep, rfl, rfl, (regImage_answer _ _ r).symm, ?_, ?_, ?_⟩
  · rintro rfl htick
    obtain ⟨-, hts⟩ := internalPhases_time s s.nextInput.dqIn
    exact hts.trans (if_pos htick)
  · rintro rfl hdecoding
    rw [answer_rdata, regImage, internalPhases_of_decoding hdecoding, image_fsm]
    obtain ⟨-, -, -, hdone, -⟩ :=
      statusFieldsAtTheirBits (commit (edgePhase s.nextInput.dqIn .decoding (timerPhase s.beginCycle))).status
    exact ⟨hdone, rfl⟩
  · rintro rfl hedge
    exact congrArg zext32 (internalPhases_edgeCount_of_captured hedge)

end Sys2Proof.Machine
end

section
/-! Setting and clearing a flag in one cycle (40_cycle_and_bus.md R137): what phase (b) sets, exactly, and what a write of
STATUS then clears. -/

namespace Sys2Proof.Machine

/-- Whatever the outcome of an acquisition, it sets SWD_DONE and no other flag. -/
theorem value_commitOutcome (f : StickyFlag) (s : State) :
    f.value (commitOutcome s).status = (f.value s.status || decide (f = .done)) := by
  rcases commitOutcome_cases s with ⟨-, -, heq⟩ | ⟨-, -, heq⟩ | ⟨-, heq⟩ <;> rw [heq]
  · cases f <;> simp [StickyFlag.value, commitValid]
  · exact value_raise f s .checksumMismatch
  · exact value_raise f s .acquisitionTimeout

theorem value_commit (f : StickyFlag) (s : State) :
    f.value (commit s).status = (f.value s.status || decide (f = .done)) := by
  have houtcome := value_commitOutcome f s
  cases f
  case done => exact (Bool.or_true _).symm
  all_goals exact houtcome

theorem value_fsm_update (f : StickyFlag) (st : Status) (st0 : SwdState) :
    f.value { st with fsm := st0 } = f.value st := by
  cases f <;> rfl

/-- Of all flags and states, phase (b) sets SWD_DONE in DECODING (40_cycle_and_bus.md R137). -/
theorem value_fsmPhase (f : StickyFlag) (tick : Bool) (st0 : SwdState) (s : State) :
    f.value (fsmPhase tick st0 s).status = (f.value s.status || decide (f = .done ∧ st0 = .decoding)) := by
  cases st0 <;> unfold fsmPhase
  case idle => simp
  case requesting =>
    rcases requestingStep_cases tick s with ⟨-, heq⟩ | ⟨-, -, heq⟩ | ⟨-, -, heq⟩ <;> rw [heq] <;>
      simp [value_fsm_update]
  case listening => simp [listeningStep_eq, value_fsm_update]
  case decoding => simp [value_commit]

theorem value_internalPhases (f : StickyFlag) (s : State) (dq : Bool) :
    f.value (s.internalPhases dq).status =
      (f.value s.status || decide (f = .done ∧ s.status.fsm = .decoding)) := by
  rw [State.internalPhases, value_fsmPhase, value_edgePhase]
  rfl

theorem fsmPhase_doneSetB (tick : Bool) (st0 : SwdState) (s : State) :
    (fsmPhase tick st0 s).doneSetB = (s.doneSetB || decide (st0 = .decoding)) := by
  cases st0 <;> unfold fsmPhase
  case idle => simp
  case requesting =>
    rcases requestingStep_cases tick s with ⟨-, heq⟩ | ⟨-, -, heq⟩ | ⟨-, -, heq⟩ <;> rw [heq] <;> simp
  case listening => simp [listeningStep_eq]
  case decoding => simp [commit]

/-- Phases (a) and (b) mark the cycle of a commit, and no other. -/
theorem internalPhases_doneSetB (s : State) (dq : Bool) :
    (s.internalPhases dq).doneSetB = decide (s.status.fsm = .decoding) := by
  obtain ⟨-, -, -, -, -, -, -, -, hedge, -⟩ := edgePhase_frame dq s.status.fsm (timerPhase s.beginCycle)
  rw [State.internalPhases, fsmPhase_doneSetB, hedge]
  rfl

/-- A flag after the cycle of a write of STATUS: SWD_DONE stays where phase (b) has just set it, and each flag is otherwise
cleared by its bit. -/
theorem step_of_wrStatus {s : State} {d : Word} (hrst : s.nextInput.rst = false)
    (hreq : s.nextInput.req = some (packTW true 0x04#8 d)) :
    ∃ t, step s = .next t ∧ ∀ f : StickyFlag,
      f.value t.status =
        if f = .done ∧ s.status.fsm = .decoding then true else (f.value s.status && !d.getLsbD f.bit) := by
  refine ⟨_, step_of_write (r := .status) hrst hreq, fun f => ?_⟩
  rw [answer_status, acknowledge_status, value_ack, value_internalPhases, internalPhases_doneSetB]
  by_cases hset : f = .done ∧ s.status.fsm = .decoding
  · simp [hset, w1c]
  · rw [if_neg hset]
    simp [hset, ← Bool.decide_and, w1c]

/-- Settles O19: `value_internalPhases` for phases (a) and (b), `step_of_wrStatus` for the cycle of a write of STATUS. -/
theorem setWinsOverClear : Obligations.SetWinsOverClear := by
  refine ⟨fun s dq => ?_, fun s d hrst hreq => ?_⟩
  · have hkept (f : StickyFlag) (hf : f ≠ .done) : f.value (s.internalPhases dq).status = f.value s.status := by
      simp [value_internalPhases, hf]
    refine ⟨hkept .errIllegalCmd nofun, hkept .errStartBusy nofun, hkept .luxShort nofun, hkept .cfgErr nofun,
      hkept .numErr nofun, hkept .pwmChanged nofun, hkept .errBus nofun, ?_⟩
    have hdone : (s.internalPhases dq).status.done = _ := value_internalPhases .done s dq
    simp [hdone, StickyFlag.value]
  · obtain ⟨t, hstep, hvalue⟩ := step_of_wrStatus hrst hreq
    have hcleared (f : StickyFlag) (hf : ¬(f = .done ∧ s.status.fsm = .decoding)) :
        f.value t.status = (f.value s.status && !d.getLsbD f.bit) := (hvalue f).trans (if_neg hf)
    exact ⟨t, hstep, fun hdecoding => (hvalue .done).trans (if_pos ⟨rfl, hdecoding⟩),
      fun hfsm => hcleared .done fun h => hfsm h.2, hcleared .errIllegalCmd nofun, hcleared .errStartBusy nofun,
      hcleared .luxShort nofun, hcleared .cfgErr nofun, hcleared .numErr nofun, hcleared .pwmChanged nofun,
      hcleared .errBus nofun⟩

end Sys2Proof.Machine
end

section
/-! The register accesses field by field (40_cycle_and_bus.md R139, R140). -/

namespace Sys2Proof.Machine

/-- Settles O14: each read by its register. -/
theorem readsAnswerTheRegister : Obligations.ReadsAnswerTheRegister := fun s =>
  have hread (r : Reg) : exec (decodeRead r) s = .next (s.answer (regImage s r)) := exec_decodeRead r s
  ⟨hread .cmd, hread .status, hread .irqEn, hread .swdEdges, hread .swdHumid, hread .swdTemp, hread .swdCsum,
    hread .swdTstart, hread .swdTimeout, hread .ts, hread .picS, hread .picD, hread .picA, hread .picHour,
    hread .picLuxin, hread .picConsigne, hread .picLux, hread .picLuxraw, hread .picInteg, hread .picOutput,
    hread .picPwm⟩

/-- A W1C field that phase (b) cannot set goes by its written bit alone. -/
theorem w1c_not_held (old written : Bool) : w1c old written false = (old && !written) := by
  rw [w1c, Bool.or_false]

/-- Settles O18: the acknowledgement flag by flag; every other write is the update it names. -/
theorem writesStoreTheirFields : Obligations.WritesStoreTheirFields := by
  intro s d
  refine ⟨?_, rfl, rfl, rfl, rfl, rfl, rfl, rfl, rfl⟩
  have hack : exec (.wrStatus d) s = .next ((s.acknowledge d).answer 0#32) := rfl
  simp only [hack, State.answer, State.acknowledge, Status.ack, w1c_not_held]
  rfl

end Sys2Proof.Machine
end

section
/-! The accumulators as shift registers (41_edge_capture_decoder.md R165, R166): a bit enters at the least significant end and
each later one moves it up by one place. -/

namespace Sys2Proof.Machine

theorem getLsbD_shiftIn_zero {m : Nat} (acc : BitVec m) (b : Bool) (hm : 0 < m) :
    (shiftIn acc b).getLsbD 0 = b := by
  simp [shiftIn, hm]

theorem getLsbD_shiftIn_succ {m i : Nat} (acc : BitVec m) (b : Bool) (hi : i + 1 < m) :
    (shiftIn acc b).getLsbD (i + 1) = acc.getLsbD i := by
  simp [shiftIn, hi, -BitVec.getLsbD_eq_getElem]

/-- Shifting in drops the most significant bit and appends the new one. -/
theorem shiftIn_eq_append {m : Nat} (acc : BitVec (m + 1)) (b : Bool) :
    shiftIn acc b = acc.extractLsb' 0 m ++ BitVec.ofBool b := by
  apply BitVec.eq_of_getLsbD_eq
  rintro (- | i) hi
  · rw [getLsbD_shiftIn_zero _ _ hi]
    simp [-BitVec.getLsbD_eq_getElem, BitVec.getLsbD_append]
  · rw [getLsbD_shiftIn_succ _ _ hi]
    simp [-BitVec.getLsbD_eq_getElem, BitVec.getLsbD_append, Nat.lt_of_succ_lt_succ hi]

/-- An accumulator of `m` bits that takes the bits from `first` on, in order, and no others: after the bits below `c`, each
it took stands as many places up as it has taken bits since. -/
theorem getLsbD_of_shifts {m first total : Nat} {acc : Nat → BitVec m} {bit : Nat → Bool}
    (hacc : ∀ k < total, acc (k + 1) = if first ≤ k ∧ k < first + m then shiftIn (acc k) (bit k) else acc k) :
    ∀ c ≤ total, ∀ k < c, first ≤ k → k < first + m → (acc c).getLsbD (min c (first + m) - 1 - k) = bit k
  | c + 1, hc, k, hk, hfirst, hlast => by
    have ih (hlt : k < c) := getLsbD_of_shifts hacc c (by omega) k hlt hfirst hlast
    rw [hacc c hc]
    by_cases htaken : first ≤ c ∧ c < first + m
    · rw [if_pos htaken]
      obtain rfl | hlt : k = c ∨ k < c := by omega
      · rw [show min (k + 1) (first + m) - 1 - k = 0 by omega, getLsbD_shiftIn_zero _ _ (by omega)]
      · rw [show min (c + 1) (first + m) - 1 - k = min c (first + m) - 1 - k + 1 by omega,
          getLsbD_shiftIn_succ _ _ (by omega)]
        exact ih hlt
    · rw [if_neg htaken, show min (c + 1) (first + m) = min c (first + m) by omega]
      exact ih (by omega)

end Sys2Proof.Machine
end

section
/-! The operation EDGE (41_edge_capture_decoder.md R162 to R166): edge 0 takes its time alone; each later edge has an interval
and appends its bit, if it decodes one. -/

namespace Sys2Proof.Machine

theorem inHumid_iff (n : Nat) : inHumid n = true ↔ n % 2 = 1 ∧ 5 ≤ n ∧ n ≤ 35 := by
  simp only [inHumid, Bool.and_eq_true, beq_iff_eq, decide_eq_true_eq]
  omega

theorem inTemp_iff (n : Nat) : inTemp n = true ↔ n % 2 = 1 ∧ 37 ≤ n ∧ n ≤ 67 := by
  simp only [inTemp, Bool.and_eq_true, beq_iff_eq, decide_eq_true_eq]
  omega

theorem inCsum_iff (n : Nat) : inCsum n = true ↔ n % 2 = 1 ∧ 69 ≤ n ∧ n ≤ 83 := by
  simp only [inCsum, Bool.and_eq_true, beq_iff_eq, decide_eq_true_eq]
  omega

theorem captureEdge_of_zero {w : Swd} (h : w.edgeCount = 0) (t : Word) :
    w.captureEdge t = { w with tPrev := t, edgeCount := w.edgeCount + 1 } := if_pos h

theorem captureEdge_of_ne_zero {w : Swd} (h : w.edgeCount ≠ 0) (t : Word) :
    w.captureEdge t =
      { w.shiftBit w.edgeCount.toNat (edgeBit (t - w.tPrev) w.dPrev) with
        dPrev := t - w.tPrev
        tPrev := t
        edgeCount := w.edgeCount + 1 } := if_neg h

/-- An even edge decodes no bit. -/
theorem shiftBit_of_even {n : Nat} (h : n % 2 = 0) (w : Swd) (b : Bool) : w.shiftBit n b = w := by
  simp [Swd.shiftBit, inHumid, inTemp, inCsum, h]

theorem ofBool_edgeBit (d dPrev : Word) :
    BitVec.ofBool (edgeBit d dPrev) = if dPrev.toNat < d.toNat then 1#1 else 0#1 := by
  by_cases h : dPrev.toNat < d.toNat <;> simp [edgeBit, h]

/-- Settles O26, by the cases of the edge phase and of EDGE. -/
theorem edgePhaseCaptures : Obligations.EdgePhaseCaptures := by
  intro s dq st0
  rcases edgePhase_cases dq st0 s with ⟨hlevel, hst0, hlt, heq⟩ | ⟨hnot, heq⟩
  · refine ⟨fun hnot => absurd ⟨hlevel, hst0, hlt⟩ hnot, fun _ _ hn => ?_, fun _ _ hn _ => ?_⟩
    · have hzero : s.swd.edgeCount = 0 := BitVec.eq_of_toNat_eq hn
      rw [heq, captureEdge_of_zero hzero, if_pos hzero, hzero]
      rfl
    · have hpos : s.swd.edgeCount ≠ 0 := fun h => by simp [h] at hn
      have hnext : s.swd.edgeCount + 1 = BitVec.ofNat 7 (s.swd.edgeCount.toNat + 1) := by
        simp [BitVec.ofNat_add]
      rw [heq, captureEdge_of_ne_zero hpos, if_neg hpos, hnext]
      simp only [Swd.shiftBit, inHumid_iff, inTemp_iff, inCsum_iff, shiftIn_eq_append, ofBool_edgeBit]
  · exact ⟨fun _ => heq, fun hlevel hst0 hn => absurd ⟨hlevel, hst0, by omega⟩ hnot,
      fun hlevel hst0 _ hn => absurd ⟨hlevel, hst0, hn⟩ hnot⟩

end Sys2Proof.Machine
end

section
/-! A run of edges from EDGE_COUNT = 0 (41_edge_capture_decoder.md R164, R167): the interval registers hold the last edge's
time and interval, and each pair of edges 4 + 2k, 5 + 2k appends frame bit k to its accumulator. -/

namespace Sys2Proof.Machine

theorem captureEdges_edgeCount {time : Nat → Word} {w : Swd} (hw : w.edgeCount = 0) :
    ∀ n, (captureEdges time n w).edgeCount = BitVec.ofNat 7 n
  | 0 => hw
  | n + 1 => by
    obtain ⟨-, -, -, -, -, -, -, -, -, hcount, -⟩ := captureEdge_frame (captureEdges time n w) (time n)
    rw [captureEdges, hcount, captureEdges_edgeCount hw n, BitVec.ofNat_add]
    rfl

theorem captureEdges_tPrev {time : Nat → Word} {w : Swd} {n : Nat} (hn : 1 ≤ n) :
    (captureEdges time n w).tPrev = time (n - 1) := by
  obtain ⟨n, rfl⟩ := Nat.exists_eq_add_of_le' hn
  obtain ⟨-, -, -, -, -, -, -, -, -, -, htime⟩ := captureEdge_frame (captureEdges time n w) (time n)
  exact htime

/-- Edge n of the run, for n ≥ 1: its interval is d[n]. -/
theorem captureEdges_succ {time : Nat → Word} {w : Swd} (hw : w.edgeCount = 0) {n : Nat} (hn : 1 ≤ n) (hlt : n < 128) :
    captureEdges time (n + 1) w =
      { (captureEdges time n w).shiftBit n (edgeBit (interval time n) (captureEdges time n w).dPrev) with
        dPrev := interval time n
        tPrev := time n
        edgeCount := BitVec.ofNat 7 n + 1 } := by
  have hcount := captureEdges_edgeCount (time := time) hw n
  have htoNat : (BitVec.ofNat 7 n).toNat = n := (BitVec.toNat_ofNat n 7).trans (Nat.mod_eq_of_lt hlt)
  have hpos : BitVec.ofNat 7 n ≠ 0 := fun h => Nat.ne_of_lt hn ((congrArg BitVec.toNat h).symm.trans htoNat)
  rw [captureEdges, captureEdge_of_ne_zero (hcount ▸ hpos), hcount, htoNat, captureEdges_tPrev hn]
  rfl

/-- Each accumulator over the two edges of frame bit k: edge 4 + 2k decodes nothing, edge 5 + 2k decodes the frame bit, and
one accumulator takes it. -/
theorem captureEdges_pair {time : Nat → Word} {w : Swd} (hw : w.edgeCount = 0) {k : Nat} (hk : k < 40) :
    let before := captureEdges time (4 + 2 * k) w
    let after := captureEdges time (4 + 2 * (k + 1)) w
    let bit := frameBit time k
    (after.accH = if 0 ≤ k ∧ k < 0 + 16 then shiftIn before.accH bit else before.accH) ∧
    (after.accT = if 16 ≤ k ∧ k < 16 + 16 then shiftIn before.accT bit else before.accT) ∧
    (after.accC = if 32 ≤ k ∧ k < 32 + 8 then shiftIn before.accC bit else before.accC) := by
  intro before after bit
  have hfirst := captureEdges_succ (time := time) hw (n := 4 + 2 * k) (by omega) (by omega)
  rw [shiftBit_of_even (by omega)] at hfirst
  have hsecond : after = _ := captureEdges_succ (time := time) hw (n := 4 + 2 * k + 1) (by omega) (by omega)
  have hbit : edgeBit (interval time (4 + 2 * k + 1)) (interval time (4 + 2 * k)) = bit := by
    rw [Nat.add_right_comm]
    rfl
  rw [hfirst, hbit] at hsecond
  have hhumid : inHumid (4 + 2 * k + 1) = true ↔ 0 ≤ k ∧ k < 0 + 16 := by rw [inHumid_iff]; omega
  have htemp : inTemp (4 + 2 * k + 1) = true ↔ 16 ≤ k ∧ k < 16 + 16 := by rw [inTemp_iff]; omega
  have hcsum : inCsum (4 + 2 * k + 1) = true ↔ 32 ≤ k ∧ k < 32 + 8 := by rw [inCsum_iff]; omega
  rw [hsecond]
  simp only [Swd.shiftBit, hhumid, htemp, hcsum]
  exact ⟨rfl, rfl, rfl⟩

/-- Settles O27: frame bit by frame bit (`captureEdges_pair`), each accumulator takes its own in order. -/
theorem completeFrameMapsTheBits : Obligations.CompleteFrameMapsTheBits := by
  intro time w hw
  have hpair (k : Nat) (hk : k < 40) := captureEdges_pair (time := time) hw hk
  simp only [forall_and] at hpair
  obtain ⟨hhumid, htemp, hcsum⟩ := hpair
  have humidBit := getLsbD_of_shifts (acc := fun k => (captureEdges time (4 + 2 * k) w).accH) hhumid 40 le_rfl
  have tempBit := getLsbD_of_shifts (acc := fun k => (captureEdges time (4 + 2 * k) w).accT) htemp 40 le_rfl
  have csumBit := getLsbD_of_shifts (acc := fun k => (captureEdges time (4 + 2 * k) w).accC) hcsum 40 le_rfl
  exact ⟨captureEdges_edgeCount hw 84, fun k hk => humidBit k (by omega) k.zero_le (by omega),
    fun k hlow hk => tempBit k (by omega) hlow hk, fun k hlow hk => csumBit k hk hlow hk⟩

end Sys2Proof.Machine
end

section
/-! The checksum (41_edge_capture_decoder.md R168). -/

namespace Sys2Proof.Machine

theorem frameSum_toNat (h t : BitVec 16) :
    (frameSum h t).toNat = (h.toNat / 256 + h.toNat % 256 + t.toNat / 256 + t.toNat % 256) % 256 := by
  simp only [frameSum, BitVec.toNat_add, BitVec.extractLsb'_toNat, Nat.shiftRight_eq_div_pow]
  omega

/-- Settles O28: the sum as a number (`frameSum_toNat`). -/
theorem checksumIsTheByteSum : Obligations.ChecksumIsTheByteSum := by
  refine ⟨fun h t c => ?_, by decide⟩
  rw [frameOk, beq_iff_eq, ← BitVec.toNat_inj, frameSum_toNat]

end Sys2Proof.Machine
end

section
/-! A cycle by its SWD_STATE (42_acquisition.md R191 to R198): phases (a) and (b) as one equation for each state, beside
`internalPhases_of_decoding`; and the counter of µs ticks as a number. -/

namespace Sys2Proof.Machine

/-- Outside LISTENING the edge phase takes the sample and captures nothing (41_edge_capture_decoder.md R161). -/
theorem edgePhase_of_ne_listening {st0 : SwdState} (h : st0 ≠ .listening) (dq : Bool) (s : State) :
    edgePhase dq st0 s = { s with swd.linePrev := dq } := by
  rcases edgePhase_cases dq st0 s with ⟨-, hst0, -⟩ | ⟨-, heq⟩
  · exact absurd hst0 h
  · exact heq

/-- The edge phase leaves the state machine, its counter and the durations, latched or not. -/
theorem edgePhase_counters (dq : Bool) (st0 : SwdState) (s : State) :
    (edgePhase dq st0 s).status.fsm = s.status.fsm ∧ (edgePhase dq st0 s).swd.pcnt = s.swd.pcnt ∧
    (edgePhase dq st0 s).swd.tstartL = s.swd.tstartL ∧ (edgePhase dq st0 s).swd.timeoutL = s.swd.timeoutL := by
  rcases edgePhase_cases dq st0 s with ⟨-, -, -, heq⟩ | ⟨-, heq⟩ <;> rw [heq]
  · obtain ⟨-, -, -, -, -, -, hpcnt, htstartL, htimeoutL, -⟩ := captureEdge_frame s.swd s.ts
    exact ⟨rfl, hpcnt, htstartL, htimeoutL⟩
  · exact ⟨rfl, rfl, rfl, rfl⟩

theorem internalPhases_of_idle {s : State} (h : s.status.fsm = .idle) (dq : Bool) :
    s.internalPhases dq = { timerPhase s.beginCycle with swd.linePrev := dq } := by
  rw [State.internalPhases, h]
  exact edgePhase_of_ne_listening (st0 := .idle) nofun dq _

theorem internalPhases_of_requesting {s : State} (h : s.status.fsm = .requesting) (dq : Bool) :
    s.internalPhases dq = requestingStep s.usTick { timerPhase s.beginCycle with swd.linePrev := dq } := by
  rw [State.internalPhases, h, edgePhase_of_ne_listening (st0 := .requesting) nofun, fsmPhase]

theorem internalPhases_of_listening {s : State} (h : s.status.fsm = .listening) (dq : Bool) :
    s.internalPhases dq = listeningStep s.usTick (edgePhase dq .listening (timerPhase s.beginCycle)) := by
  rw [State.internalPhases, h, fsmPhase]

/-- The µs ticks saturate at 2^17 - 1 (10_state.md R62). -/
theorem pcntUp_toNat (p : BitVec 17) : (pcntUp p).toNat = min (p.toNat + 1) (2 ^ 17 - 1) := by
  have hmax : (BitVec.allOnes 17).toNat = 2 ^ 17 - 1 := BitVec.toNat_allOnes
  unfold pcntUp
  split <;> bv_omega

theorem pcntUp_eq_ofNat (p : BitVec 17) : pcntUp p = BitVec.ofNat 17 (min (p.toNat + 1) (2 ^ 17 - 1)) := by
  rw [← pcntUp_toNat, BitVec.ofNat_toNat, BitVec.setWidth_eq]

theorem pcntNext_toNat (tick : Bool) (p : BitVec 17) :
    (pcntNext tick p).toNat = if tick then min (p.toNat + 1) (2 ^ 17 - 1) else p.toNat := by
  cases tick
  · rfl
  · exact pcntUp_toNat p

/-- A commit writes of the front end the frame words alone (42_acquisition.md R199). -/
theorem commit_swd (s : State) :
    (commit s).swd =
      { s.swd with
        humid := (commit s).swd.humid
        temp := (commit s).swd.temp
        csum := (commit s).swd.csum } := by
  unfold commit
  rcases commitOutcome_cases s with ⟨-, -, heq⟩ | ⟨-, -, heq⟩ | ⟨-, heq⟩ <;> rw [heq] <;> rfl

theorem internalPhases_swd_of_decoding {s : State} (h : s.status.fsm = .decoding) (dq : Bool) :
    (s.internalPhases dq).swd =
      { s.swd with
        linePrev := dq
        humid := (s.internalPhases dq).swd.humid
        temp := (s.internalPhases dq).swd.temp
        csum := (s.internalPhases dq).swd.csum } := by
  rw [internalPhases_of_decoding h, edgePhase_of_ne_listening (st0 := .decoding) nofun]
  exact commit_swd _

/-- SWD_STATE after phases (a) and (b): each state stays or goes on to the next. -/
theorem internalPhases_fsm (s : State) (dq : Bool) :
    (s.status.fsm = .idle → (s.internalPhases dq).status.fsm = .idle) ∧
    (s.status.fsm = .requesting →
      (s.internalPhases dq).status.fsm = .requesting ∨ (s.internalPhases dq).status.fsm = .listening) ∧
    (s.status.fsm = .listening →
      (s.internalPhases dq).status.fsm = .listening ∨ (s.internalPhases dq).status.fsm = .decoding) ∧
    (s.status.fsm = .decoding → (s.internalPhases dq).status.fsm = .idle) := by
  refine ⟨fun h => ?_, fun h => ?_, fun h => ?_, fun h => ?_⟩
  · rw [internalPhases_of_idle h]
    exact h
  · rw [internalPhases_of_requesting h]
    rcases requestingStep_cases s.usTick { timerPhase s.beginCycle with swd.linePrev := dq } with
      ⟨-, heq⟩ | ⟨-, -, heq⟩ | ⟨-, -, heq⟩ <;> rw [heq]
    · exact .inl h
    · exact .inl h
    · exact .inr rfl
  · obtain ⟨hfsm, -⟩ := edgePhase_counters dq .listening (timerPhase s.beginCycle)
    rw [internalPhases_of_listening h, listeningStep_eq]
    dsimp only
    split
    · exact .inr rfl
    · exact .inl (hfsm.trans h)
  · rw [internalPhases_of_decoding h]
    rfl

end Sys2Proof.Machine
end

section
/-! The transactions and the acquisition (42_acquisition.md R190, R202): of them all, an accepted SWD_START alone acts on
the state machine, and none moves the reading. -/

namespace Sys2Proof.Machine

theorem exists_exec_eq_next (i : Instr) (s : State) : ∃ t, exec i s = .next t := by
  cases i <;> exact ⟨_, rfl⟩

theorem exists_step_of_no_reset {s : State} (hrst : s.nextInput.rst = false) : ∃ t, step s = .next t := by
  cases hreq : s.nextInput.req with
  | none => exact ⟨_, step_of_no_request s hrst hreq⟩
  | some tw =>
    obtain ⟨t, hexec⟩ := exists_exec_eq_next (decodeTW tw) (s.internalPhases s.nextInput.dqIn)
    exact ⟨t, (step_of_request s tw hrst hreq).trans hexec⟩

theorem exec_swdStart_of_idle {s : State} (h : s.status.fsm = .idle) :
    exec .swdStart s = .next ((startAcquisition s).answer 0#32) :=
  congrArg (fun u => Host.Outcome.next (State.answer u 0#32)) (if_pos h)

theorem exec_swdStart_of_busy {s : State} (h : s.status.fsm ≠ .idle) :
    exec .swdStart s = .next ((s.raise .startWhileBusy).answer 0#32) :=
  congrArg (fun u => Host.Outcome.next (State.answer u 0#32)) (if_neg h)

/-- A transaction leaves the state machine and the front end but for SWD_TSTART and SWD_TIMEOUT, or it is an accepted
SWD_START. -/
theorem exec_course {i : Instr} {s t : State} (h : exec i s = .next t) :
    (t.status.fsm = s.status.fsm ∧ t.swd = { s.swd with tstart := t.swd.tstart, timeout := t.swd.timeout }) ∨
    (i = .swdStart ∧ s.status.fsm = .idle ∧ t.status.fsm = .requesting) := by
  cases effect_of_exec h
  case started hfsm => exact .inr ⟨rfl, hfsm, rfl⟩
  all_goals exact .inl ⟨rfl, rfl⟩

/-- A transaction leaves SWD_DONE, or it is a write of STATUS, which cannot clear what phase (b) has just set
(40_cycle_and_bus.md R137). -/
theorem exec_done {i : Instr} {s t : State} (h : exec i s = .next t) :
    t.status.done = s.status.done ∨ ∃ d : Word, t.status.done = w1c s.status.done (d.getLsbD 5) s.doneSetB := by
  cases effect_of_exec h
  case acknowledged d => exact .inr ⟨d, rfl⟩
  all_goals exact .inl rfl

/-- A reading and its outcome: SWD_RESULT, SWD_DATA_VALID and the frame words, all that a commit decides
(42_acquisition.md R199). -/
structure Reading where
  result : SwdResult
  dataValid : Bool
  humid : BitVec 16
  temp : BitVec 16
  csum : BitVec 8

/-- The reading that a state exposes to the host. -/
def State.reading (s : State) : Reading :=
  ⟨s.status.result, s.status.dataValid, s.swd.humid, s.swd.temp, s.swd.csum⟩

theorem reading_eq_iff (s t : State) :
    s.reading = t.reading ↔
      s.status.result = t.status.result ∧ s.status.dataValid = t.status.dataValid ∧ s.swd.humid = t.swd.humid ∧
      s.swd.temp = t.swd.temp ∧ s.swd.csum = t.swd.csum := by
  simp only [State.reading, Reading.mk.injEq]

/-- No transaction moves the reading, nor SWD_EDGE0_LEVEL and EDGE_COUNT (42_acquisition.md R199, R202). -/
theorem exec_reading {i : Instr} {s t : State} (h : exec i s = .next t) :
    t.reading = s.reading ∧ t.status.edge0Level = s.status.edge0Level ∧ t.swd.edgeCount = s.swd.edgeCount := by
  cases effect_of_exec h <;> exact ⟨rfl, rfl, rfl⟩

/-- `exec_course` for a whole cycle. -/
theorem step_course {s t : State} (hrst : s.nextInput.rst = false) (h : step s = .next t) :
    let u := s.internalPhases s.nextInput.dqIn
    (t.status.fsm = u.status.fsm ∧ t.swd = { u.swd with tstart := t.swd.tstart, timeout := t.swd.timeout }) ∨
    ((∃ tw, s.nextInput.req = some tw ∧ decodeTW tw = .swdStart) ∧ u.status.fsm = .idle ∧
      t.status.fsm = .requesting) := by
  intro u
  rcases step_cases_of_no_reset hrst h with ⟨-, rfl⟩ | ⟨tw, hreq, hexec⟩
  · exact .inl ⟨rfl, rfl⟩
  · exact (exec_course hexec).imp_right fun ⟨hstart, hfsm⟩ => ⟨⟨tw, hreq, hstart⟩, hfsm⟩

/-- `exec_reading` for a whole cycle. -/
theorem step_reading {s t : State} (hrst : s.nextInput.rst = false) (h : step s = .next t) :
    let u := s.internalPhases s.nextInput.dqIn
    t.reading = u.reading ∧ t.status.edge0Level = u.status.edge0Level ∧ t.swd.edgeCount = u.swd.edgeCount := by
  intro u
  rcases step_cases_of_no_reset hrst h with ⟨-, rfl⟩ | ⟨tw, -, hexec⟩
  · exact ⟨rfl, rfl, rfl⟩
  · exact exec_reading hexec

/-- `exec_done` for a whole cycle. -/
theorem step_done {s t : State} (hrst : s.nextInput.rst = false) (h : step s = .next t) :
    let u := s.internalPhases s.nextInput.dqIn
    t.status.done = u.status.done ∨ ∃ d : Word, t.status.done = w1c u.status.done (d.getLsbD 5) u.doneSetB := by
  intro u
  rcases step_cases_of_no_reset hrst h with ⟨-, rfl⟩ | ⟨tw, -, hexec⟩
  · exact .inl rfl
  · exact exec_done hexec

end Sys2Proof.Machine
end

section
/-! IDLE and SWD_START (42_acquisition.md R190, R191, R302). -/

namespace Sys2Proof.Machine

/-- Settles O29: where the cycle starts in IDLE or DECODING, phases (a) and (b) leave IDLE and the durations, and the
SWD_START is accepted. -/
theorem startAcceptedOnlyWhenIdle : Obligations.StartAcceptedOnlyWhenIdle := by
  refine ⟨rfl, fun s => exec_swdStart_of_idle, fun s => exec_swdStart_of_busy, fun s hrst hreq hfsm => ?_⟩
  have hphases : (s.internalPhases s.nextInput.dqIn).status.fsm = .idle ∧
      (s.internalPhases s.nextInput.dqIn).swd.tstart = s.swd.tstart ∧
      (s.internalPhases s.nextInput.dqIn).swd.timeout = s.swd.timeout := by
    rcases hfsm with hidle | hdecoding
    · rw [internalPhases_of_idle hidle]
      exact ⟨hidle, rfl, rfl⟩
    · obtain ⟨-, -, -, hidle⟩ := internalPhases_fsm s s.nextInput.dqIn
      have hswd := internalPhases_swd_of_decoding hdecoding s.nextInput.dqIn
      exact ⟨hidle hdecoding, by rw [hswd], by rw [hswd]⟩
  obtain ⟨hidle, htstart, htimeout⟩ := hphases
  have hstep : step s = .next ((startAcquisition (s.internalPhases s.nextInput.dqIn)).answer 0#32) :=
    calc step s = exec .swdStart (s.internalPhases s.nextInput.dqIn) :=
          stepRunsTheDecodedTransaction.2 s .swdStart rfl hrst hreq
      _ = _ := exec_swdStart_of_idle hidle
  have hbusy := value_internalPhases .errStartBusy s s.nextInput.dqIn
  have hdone := value_internalPhases .done s s.nextInput.dqIn
  exact ⟨_, hstep, rfl, rfl, by simpa [StickyFlag.value] using hbusy, htstart, htimeout,
    fun h => by simpa [StickyFlag.value, h] using hdone⟩

/-- Settles O30: from IDLE phases (a) and (b) leave IDLE, and of all transactions SWD_START alone does not. -/
theorem idleWaitsForStart : Obligations.IdleWaitsForStart := by
  refine ⟨fun s dq hidle => ⟨internalPhases_of_idle hidle dq, by simp [State.dqOe, hidle]⟩,
    fun s t hidle hstep hleft => ?_⟩
  have hphases := (internalPhases_fsm s s.nextInput.dqIn).1 hidle
  cases hrst : s.nextInput.rst
  case true =>
    rw [step_of_reset s hrst] at hstep
    obtain rfl : s.resetCycle = t := by injection hstep
    exact absurd rfl hleft
  case false =>
    refine ⟨rfl, ?_⟩
    rcases step_course hrst hstep with ⟨hfsm, -⟩ | ⟨hstart, -⟩
    · exact absurd (hfsm.trans hphases) hleft
    · exact hstart

/-- A cycle from IDLE without reset and without a SWD_START: what the host finds of the last acquisition stays. -/
theorem step_of_idle_without_start {s t : State} (hidle : s.status.fsm = .idle) (hrst : s.nextInput.rst = false)
    (hstart : ∀ tw, s.nextInput.req = some tw → decodeTW tw ≠ .swdStart) (h : step s = .next t) :
    t.status.fsm = .idle ∧ t.reading = s.reading ∧ t.status.edge0Level = s.status.edge0Level ∧
    t.swd.edgeCount = s.swd.edgeCount ∧ (s.status.done = false → t.status.done = false) := by
  have hcourse := step_course hrst h
  have hreading := step_reading hrst h
  have hdone := step_done hrst h
  rw [internalPhases_of_idle hidle] at hcourse hreading hdone
  rcases hcourse with ⟨hfsm, -⟩ | ⟨⟨tw, hreq, hdecode⟩, -⟩
  · obtain ⟨hreading, hlevel, hcount⟩ := hreading
    refine ⟨hfsm.trans hidle, hreading, hlevel, hcount, fun hclear => ?_⟩
    rcases hdone with heq | ⟨d, heq⟩
    · exact heq.trans hclear
    · simpa [hclear] using heq
  · exact absurd hdecode (hstart tw hreq)

theorem NoStart.head {n : Nat} {s : State} (h : NoStart (n + 1) s) :
    ∀ tw, s.nextInput.req = some tw → decodeTW tw ≠ .swdStart :=
  fun tw => h 0 n.succ_pos s tw rfl

theorem NoStart.tail {n : Nat} {s u : State} (h : NoStart (n + 1) s) (hstep : step s = .next u) : NoStart n u :=
  fun k hk t tw hrun => h (k + 1) (Nat.succ_lt_succ hk) t tw (run_succ_iff.2 ⟨u, hstep, hrun⟩)

/-- Settles O37, by induction on the number of cycles. -/
theorem idleKeepsTheResult : Obligations.IdleKeepsTheResult := by
  intro n
  induction n with
  | zero =>
    intro s t hidle _ _ h
    obtain rfl : s = t := by injection h
    exact ⟨hidle, rfl, rfl, rfl, rfl, rfl, rfl, rfl, id⟩
  | succ n ih =>
    intro s t hidle hrst hstart h
    obtain ⟨u, hstep, hrun⟩ := run_succ_iff.1 h
    obtain ⟨hidle', hreading, hlevel, hcount, hdone⟩ :=
      step_of_idle_without_start hidle hrst.head hstart.head hstep
    obtain ⟨hresult, hvalid, hhumid, htemp, hcsum⟩ := (reading_eq_iff u s).1 hreading
    have hrest := ih u t hidle' (hrst.tail hstep) (hstart.tail hstep) hrun
    rw [hresult, hvalid, hlevel, hcount, hhumid, htemp, hcsum] at hrest
    obtain ⟨hfsm, hresult, hvalid, hlevel, hcount, hhumid, htemp, hcsum, hdone'⟩ := hrest
    exact ⟨hfsm, hresult, hvalid, hlevel, hcount, hhumid, htemp, hcsum, hdone' ∘ hdone⟩

end Sys2Proof.Machine
end

section
/-! The states of an acquisition (42_acquisition.md R192 to R199, R202), cycle by cycle. -/

namespace Sys2Proof.Machine

/-- Settles O31, by the three cases of the REQUESTING step. -/
theorem requestingCountsAndArms : Obligations.RequestingCountsAndArms := by
  intro s dq hfsm t up
  have ht : t = _ := internalPhases_of_requesting hfsm dq
  have hup : (pcntUp s.swd.pcnt).toNat = up := pcntUp_toNat _
  refine ⟨by simp [State.dqOe, hfsm], ?_⟩
  rcases requestingStep_cases s.usTick { timerPhase s.beginCycle with swd.linePrev := dq } with
    ⟨htick, heq⟩ | ⟨htick, hle, heq⟩ | ⟨htick, hlt, heq⟩ <;> rw [ht, heq]
  · exact ⟨fun _ => ⟨rfl, rfl⟩, by simp [htick], by simp [htick]⟩
  · refine ⟨by simp [htick], fun _ _ => ⟨rfl, ?_⟩, fun _ hlt => absurd hle (by simpa [hup] using hlt)⟩
    rw [← pcntUp_eq_ofNat]
    rfl
  · exact ⟨by simp [htick], fun _ hle => absurd hlt (by simpa [hup] using hle), fun _ _ => ⟨rfl, rfl, rfl⟩⟩

/-- Settles O32, by the equation of the LISTENING step. -/
theorem listeningEndsAtFrameOrTimeout : Obligations.ListeningEndsAtFrameOrTimeout := by
  intro s dq hfsm e up
  obtain ⟨hfsm', hpcnt, -⟩ := edgePhase_counters dq .listening (timerPhase s.beginCycle)
  have hup : (pcntNext s.usTick e.swd.pcnt).toNat = up := by
    rw [hpcnt]
    exact pcntNext_toNat _ _
  have hnext : pcntNext s.usTick e.swd.pcnt = BitVec.ofNat 17 up := by
    rw [← hup, BitVec.ofNat_toNat, BitVec.setWidth_eq]
  rw [internalPhases_of_listening hfsm, listeningStep_eq, hup, hnext, hfsm'.trans hfsm]

theorem internalPhases_reading_of_ne_decoding {s : State} (h : s.status.fsm ≠ .decoding) (dq : Bool) :
    (s.internalPhases dq).reading = s.reading := by
  cases hfsm : s.status.fsm
  case idle =>
    rw [internalPhases_of_idle hfsm]
    rfl
  case requesting =>
    rw [internalPhases_of_requesting hfsm]
    rcases requestingStep_cases s.usTick { timerPhase s.beginCycle with swd.linePrev := dq } with
      ⟨-, heq⟩ | ⟨-, -, heq⟩ | ⟨-, -, heq⟩ <;> rw [heq] <;> rfl
  case listening =>
    rw [internalPhases_of_listening hfsm, listeningStep_eq]
    rcases edgePhase_cases dq .listening (timerPhase s.beginCycle) with ⟨-, -, -, heq⟩ | ⟨-, heq⟩ <;> rw [heq]
    · obtain ⟨hhumid, htemp, hcsum, -⟩ := captureEdge_frame s.swd (timerPhase s.beginCycle).ts
      exact (reading_eq_iff _ _).2 ⟨rfl, rfl, hhumid, htemp, hcsum⟩
    · rfl
  case decoding => exact absurd hfsm h

/-- The reading a commit leaves, by its outcome (42_acquisition.md R199). -/
theorem internalPhases_reading_of_decoding {s : State} (h : s.status.fsm = .decoding) (dq : Bool) :
    (s.swd.edgeCount.toNat = 84 ∧ frameOk s.swd.accH s.swd.accT s.swd.accC = true ∧
      (s.internalPhases dq).reading = ⟨.valid, true, s.swd.accH, s.swd.accT, s.swd.accC⟩) ∨
    (s.swd.edgeCount.toNat = 84 ∧ frameOk s.swd.accH s.swd.accT s.swd.accC = false ∧
      (s.internalPhases dq).reading = { s.reading with result := .checksumMismatch }) ∨
    (s.swd.edgeCount.toNat ≠ 84 ∧ (s.internalPhases dq).reading = { s.reading with result := .timeout }) := by
  rw [internalPhases_of_decoding h, edgePhase_of_ne_listening (st0 := .decoding) nofun, commit]
  rcases commitOutcome_cases { timerPhase s.beginCycle with swd.linePrev := dq } with
    ⟨hcount, hok, heq⟩ | ⟨hcount, hbad, heq⟩ | ⟨hcount, heq⟩ <;> rw [heq]
  · exact .inl ⟨hcount, hok, rfl⟩
  · exact .inr (.inl ⟨hcount, hbad, rfl⟩)
  · exact .inr (.inr ⟨hcount, rfl⟩)

/-- The cycle of a commit ends with SWD_DONE = 1, whatever its transaction clears (40_cycle_and_bus.md R137). -/
theorem step_done_of_decoding {s t : State} (hfsm : s.status.fsm = .decoding) (hrst : s.nextInput.rst = false)
    (h : step s = .next t) : t.status.done = true := by
  have hdone : (s.internalPhases s.nextInput.dqIn).status.done = true := by
    rw [internalPhases_of_decoding hfsm]
    rfl
  have hheld : (s.internalPhases s.nextInput.dqIn).doneSetB = true := by
    rw [internalPhases_doneSetB, hfsm]
    rfl
  rcases step_done hrst h with heq | ⟨d, heq⟩
  · rw [heq, hdone]
  · rw [heq, hdone, hheld, w1c_held]

/-- Settles O33: a transaction moves no reading, and phases (a) and (b) move it by a commit alone. -/
theorem commitAloneChangesTheReading : Obligations.CommitAloneChangesTheReading := by
  intro s t hrst hstep same
  obtain ⟨hreading, -, hcount⟩ := step_reading hrst hstep
  obtain ⟨-, -, -, hidle⟩ := internalPhases_fsm s s.nextInput.dqIn
  refine ⟨fun hfsm => ?_, fun hfsm => ⟨step_done_of_decoding hfsm hrst hstep, ?_, ?_, ?_, ?_⟩⟩
  · rw [internalPhases_reading_of_ne_decoding hfsm, reading_eq_iff] at hreading
    obtain ⟨hresult, hvalid, hhumid, htemp, hcsum⟩ := hreading
    exact ⟨⟨hhumid, htemp, hcsum, hvalid⟩, hresult⟩
  · rw [hcount, internalPhases_swd_of_decoding hfsm]
  · rcases step_course hrst hstep with ⟨heq, -⟩ | ⟨-, -, heq⟩
    · simp [heq, hidle hfsm]
    · simp [heq]
  · intro hleft
    rcases step_course hrst hstep with ⟨heq, -⟩ | ⟨hstart, -⟩
    · exact absurd (heq.trans (hidle hfsm)) hleft
    · exact hstart
  · rcases internalPhases_reading_of_decoding hfsm s.nextInput.dqIn with
      ⟨hfull, hok, heq⟩ | ⟨hfull, hbad, heq⟩ | ⟨hshort, heq⟩ <;> rw [heq] at hreading <;>
      obtain ⟨hresult, hvalid, hhumid, htemp, hcsum⟩ := Reading.mk.inj hreading
    · exact ⟨fun _ _ => ⟨hresult, hhumid, htemp, hcsum, hvalid⟩, by simp [hok], by simp [hfull]⟩
    · exact ⟨by simp [hbad], fun _ _ => ⟨hresult, hhumid, htemp, hcsum, hvalid⟩, by simp [hfull]⟩
    · exact ⟨by simp [hshort], by simp [hshort], fun _ => ⟨hresult, hhumid, htemp, hcsum, hvalid⟩⟩

theorem step_result_of_decoding {s t : State} (hfsm : s.status.fsm = .decoding) (hrst : s.nextInput.rst = false)
    (h : step s = .next t) : t.status.result ≠ .none := by
  obtain ⟨hreading, -⟩ := step_reading hrst h
  have hresult : t.status.result = (s.internalPhases s.nextInput.dqIn).reading.result :=
    congrArg Reading.result hreading
  rcases internalPhases_reading_of_decoding hfsm s.nextInput.dqIn with
    ⟨-, -, heq⟩ | ⟨-, -, heq⟩ | ⟨-, heq⟩ <;> rw [heq] at hresult <;> simp [hresult]

/-- A cycle from REQUESTING or LISTENING takes the state machine where phases (a) and (b) take it, whatever its
transaction. -/
theorem step_course_of_busy {s t : State} (hfsm : s.status.fsm = .requesting ∨ s.status.fsm = .listening)
    (hrst : s.nextInput.rst = false) (h : step s = .next t) :
    let u := s.internalPhases s.nextInput.dqIn
    t.status.fsm = u.status.fsm ∧ t.swd = { u.swd with tstart := t.swd.tstart, timeout := t.swd.timeout } := by
  obtain ⟨-, hrequesting, hlistening, -⟩ := internalPhases_fsm s s.nextInput.dqIn
  refine (step_course hrst h).resolve_right fun ⟨_, hidle, _⟩ => ?_
  rcases hfsm with hfsm | hfsm
  · simpa [hidle] using hrequesting hfsm
  · simpa [hidle] using hlistening hfsm

/-- Settles O34: by `exec_course` for a transaction and `step_course_of_busy` for a cycle. -/
theorem noCancellation : Obligations.NoCancellation := by
  refine ⟨fun i s t hbusy hexec => ?_, fun s t hrst hstep => ?_, fun s t hrst hstep => ⟨?_, ?_, ?_⟩,
    fun s t hbusy hexec => ?_⟩
  · obtain ⟨hfsm, hswd⟩ := (exec_course hexec).resolve_right fun ⟨_, hidle, _⟩ => hbusy hidle
    exact ⟨hfsm, by rw [hswd]⟩
  · rw [step_of_reset s hrst] at hstep
    obtain rfl : s.resetCycle = t := by injection hstep
    exact ⟨rfl, rfl, rfl⟩
  · intro hfsm
    obtain ⟨-, hnext, -⟩ := internalPhases_fsm s s.nextInput.dqIn
    obtain ⟨heq, -⟩ := step_course_of_busy (.inl hfsm) hrst hstep
    exact heq ▸ hnext hfsm
  · intro hfsm
    obtain ⟨-, -, hnext, -⟩ := internalPhases_fsm s s.nextInput.dqIn
    obtain ⟨heq, -⟩ := step_course_of_busy (.inr hfsm) hrst hstep
    exact heq ▸ hnext hfsm
  · exact fun hfsm => ⟨step_done_of_decoding hfsm hrst hstep, step_result_of_decoding hfsm hrst hstep⟩
  · rw [exec_swdStart_of_busy hbusy] at hexec
    obtain rfl : (s.raise .startWhileBusy).answer 0#32 = t := by injection hexec
    rfl

end Sys2Proof.Machine
end

section
/-! The length of an acquisition (42_acquisition.md R192, R201). S.PCNT and S.PRESC together count the cycles of each phase,
whatever the prescaler held at its start, and the phase ends by what they have counted. -/

namespace Sys2Proof.Machine

/-- The cycles of the phase so far, as S.PCNT and S.PRESC count them, with those since the last tick before the phase. -/
def State.phaseTime (s : State) : Nat := s.swd.pcnt.toNat * s.cfg.clkPerUs + s.presc

/-- S.PCNT after the tick of the next cycle, if there is one, before it saturates. -/
def State.ticksNext (s : State) : Nat := if s.usTick then s.swd.pcnt.toNat + 1 else s.swd.pcnt.toNat

/-- A cycle counts 1, in the ticks or in the prescaler. -/
theorem phaseTime_counts {s : State} (hs : s.timeOk) :
    s.ticksNext * s.cfg.clkPerUs + (if s.usTick then 0 else s.presc + 1) = s.phaseTime + 1 := by
  obtain ⟨hclk, hpresc⟩ := hs
  unfold State.phaseTime State.ticksNext
  by_cases htick : s.usTick = true
  · rw [if_pos htick, if_pos htick, Nat.succ_mul]
    rw [usTick_iff] at htick
    omega
  · rw [if_neg htick, if_neg htick]
    rfl

/-- While S.PCNT is below a bound, the phase is shorter than that many microseconds. -/
theorem phaseTime_lt {s : State} (hs : s.timeOk) {bound : Nat} (h : s.swd.pcnt.toNat < bound) :
    s.phaseTime < bound * s.cfg.clkPerUs := by
  obtain ⟨-, hpresc⟩ := hs
  calc s.phaseTime < s.swd.pcnt.toNat * s.cfg.clkPerUs + s.cfg.clkPerUs := Nat.add_lt_add_left hpresc _
    _ = (s.swd.pcnt.toNat + 1) * s.cfg.clkPerUs := (Nat.succ_mul _ _).symm
    _ ≤ bound * s.cfg.clkPerUs := Nat.mul_le_mul_right _ h

theorem step_presc {s t : State} (hrst : s.nextInput.rst = false) (h : step s = .next t) :
    t.presc = if s.usTick then 0 else s.presc + 1 := by
  obtain ⟨hphases, -⟩ := internalPhases_time s s.nextInput.dqIn
  rcases step_cases_of_no_reset hrst h with ⟨-, rfl⟩ | ⟨tw, -, hexec⟩
  · exact hphases
  · obtain ⟨-, -, hpresc, -⟩ := exec_frame _ _ _ hexec
    exact hpresc.trans hphases

/-- A cycle that only counts its tick is one cycle of the phase. -/
theorem step_phaseTime {s t : State} (hs : s.timeOk) (hrst : s.nextInput.rst = false) (h : step s = .next t)
    (hcount : t.swd.pcnt.toNat = s.ticksNext) : t.phaseTime = s.phaseTime + 1 := by
  rw [← phaseTime_counts hs, State.phaseTime, hcount, step_cfg h, step_presc hrst h]

/-- A start pulse with `left` cycles to go until capture is armed for `window` cycles (42_acquisition.md R192, R193). -/
structure State.Pulsing (s : State) (left window : Nat) : Prop where
  time : s.timeOk
  fsm : s.status.fsm = .requesting
  count : s.swd.pcnt.toNat ≤ s.swd.tstartL.toNat
  length : s.phaseTime + left = (s.swd.tstartL.toNat + 1) * s.cfg.clkPerUs
  window : s.swd.timeoutL.toNat * s.cfg.clkPerUs = window

/-- Capture is armed, and its window elapses within `left` cycles (42_acquisition.md R195, R196). -/
structure State.Capturing (s : State) (left : Nat) : Prop where
  time : s.timeOk
  fsm : s.status.fsm = .listening
  length : s.swd.timeoutL.toNat * s.cfg.clkPerUs ≤ s.phaseTime + left

theorem State.Pulsing.left_pos {s : State} {left window : Nat} (hs : s.Pulsing left window) : 0 < left := by
  have hlt : s.phaseTime < (s.swd.tstartL.toNat + 1) * s.cfg.clkPerUs :=
    phaseTime_lt hs.time (Nat.lt_succ_of_le hs.count)
  rw [← hs.length] at hlt
  omega

/-- The state just after an accepted SWD_START opens a pulse (42_acquisition.md R190). -/
theorem pulsing_of_start {s : State} (hs : s.timeOk) (hfsm : s.status.fsm = .requesting) (hpcnt : s.swd.pcnt = 0#17) :
    s.Pulsing ((s.swd.tstartL.toNat + 1) * s.cfg.clkPerUs - s.presc) (s.swd.timeoutL.toNat * s.cfg.clkPerUs) where
  time := hs
  fsm := hfsm
  count := by simp [hpcnt]
  length := by
    have hlt := phaseTime_lt hs (bound := s.swd.tstartL.toNat + 1) (by simp [hpcnt])
    have htime : s.phaseTime = s.presc := by simp [State.phaseTime, hpcnt]
    omega
  window := rfl

/-- A cycle of REQUESTING, with its transaction: the counter stays within the pulse, or the tick that takes it above
arms capture. -/
theorem step_of_requesting {s t : State} (hfsm : s.status.fsm = .requesting)
    (hcount : s.swd.pcnt.toNat ≤ s.swd.tstartL.toNat) (hrst : s.nextInput.rst = false) (h : step s = .next t) :
    t.swd.timeoutL = s.swd.timeoutL ∧
    ((t.status.fsm = .requesting ∧ t.swd.tstartL = s.swd.tstartL ∧ t.swd.pcnt.toNat ≤ s.swd.tstartL.toNat ∧
        t.swd.pcnt.toNat = s.ticksNext) ∨
      (t.status.fsm = .listening ∧ t.swd.pcnt = 0 ∧ s.usTick = true ∧ s.swd.pcnt.toNat = s.swd.tstartL.toNat)) := by
  obtain ⟨hfsm', hswd⟩ := step_course_of_busy (.inl hfsm) hrst h
  obtain ⟨-, hquiet, hcounts, harms⟩ := requestingCountsAndArms s s.nextInput.dqIn hfsm
  have hup : min (s.swd.pcnt.toNat + 1) (2 ^ 17 - 1) = s.swd.pcnt.toNat + 1 := by omega
  rw [hup] at hcounts harms
  unfold State.ticksNext
  cases htick : s.usTick
  case false =>
    obtain ⟨hstatus, hswd'⟩ := hquiet htick
    rw [hstatus] at hfsm'
    rw [hswd, hswd']
    exact ⟨rfl, .inl ⟨hfsm'.trans hfsm, rfl, hcount, rfl⟩⟩
  case true =>
    by_cases hle : s.swd.pcnt.toNat + 1 ≤ s.swd.tstartL.toNat
    · obtain ⟨hstatus, hswd'⟩ := hcounts htick hle
      have hnext : (BitVec.ofNat 17 (s.swd.pcnt.toNat + 1)).toNat = s.swd.pcnt.toNat + 1 :=
        Nat.mod_eq_of_lt (by omega)
      rw [hstatus] at hfsm'
      rw [hswd, hswd']
      exact ⟨rfl, .inl ⟨hfsm'.trans hfsm, rfl, hnext.trans_le hle, hnext⟩⟩
    · obtain ⟨hstatus, -, hswd'⟩ := harms htick (not_le.1 hle)
      rw [hstatus] at hfsm'
      rw [hswd, hswd']
      exact ⟨rfl, .inr ⟨hfsm', rfl, rfl, by omega⟩⟩

/-- A cycle of LISTENING, with its transaction: it ends, or the window has not elapsed. -/
theorem step_of_listening {s t : State} (hfsm : s.status.fsm = .listening) (hrst : s.nextInput.rst = false)
    (h : step s = .next t) :
    t.status.fsm = .decoding ∨
    (t.status.fsm = .listening ∧ t.swd.timeoutL = s.swd.timeoutL ∧ t.swd.pcnt.toNat < s.swd.timeoutL.toNat ∧
      t.swd.pcnt.toNat = s.ticksNext) := by
  obtain ⟨hfsm', hswd⟩ := step_course_of_busy (.inr hfsm) hrst h
  obtain ⟨hfsm'', hpcnt, -, htimeoutL⟩ := edgePhase_counters s.nextInput.dqIn .listening (timerPhase s.beginCycle)
  rw [internalPhases_of_listening hfsm, listeningStep_eq, hpcnt, htimeoutL] at hfsm' hswd
  split at hfsm'
  case isTrue => exact .inl hfsm'
  case isFalse hexit =>
    obtain ⟨-, hopen⟩ := not_or.1 hexit
    have hlt : (pcntNext s.usTick s.swd.pcnt).toNat < s.swd.timeoutL.toNat := not_le.1 hopen
    have hnext : (pcntNext s.usTick s.swd.pcnt).toNat = s.ticksNext := by
      unfold State.ticksNext
      rw [pcntNext_toNat] at hlt ⊢
      split_ifs at hlt ⊢ <;> omega
    rw [hswd]
    exact .inr ⟨hfsm'.trans (hfsm''.trans hfsm), htimeoutL, hlt, hnext⟩

/-- A cycle of REQUESTING: the last one of the pulse arms capture, each other leaves one cycle less. -/
theorem State.Pulsing.after_step {s t : State} {left window : Nat} (hs : s.Pulsing (left + 1) window)
    (hrst : s.nextInput.rst = false) (h : step s = .next t) :
    (left = 0 ∧ t.Capturing window) ∨ t.Pulsing left window := by
  obtain ⟨htime, hfsm, hcount, hlength, rfl⟩ := hs
  have htime' := stepKeepsTimeBase s t htime h
  obtain ⟨htimeoutL, ⟨hfsm', htstartL, hle, hnext⟩ | ⟨hfsm', hzero, htick, hlast⟩⟩ :=
    step_of_requesting hfsm hcount hrst h
  · refine .inr ⟨htime', hfsm', htstartL ▸ hle, ?_, by rw [htimeoutL, step_cfg h]⟩
    rw [step_phaseTime htime hrst h hnext, htstartL, step_cfg h]
    omega
  · have hover : (s.swd.tstartL.toNat + 1) * s.cfg.clkPerUs = s.phaseTime + 1 := by
      simpa [State.ticksNext, htick, hlast] using phaseTime_counts htime
    refine .inl ⟨by omega, htime', hfsm', ?_⟩
    rw [htimeoutL, step_cfg h]
    exact Nat.le_add_left _ _

/-- A cycle of LISTENING: it ends the capture, or there are cycles of the window left. -/
theorem State.Capturing.after_step {s t : State} {left : Nat} (hs : s.Capturing left) (hrst : s.nextInput.rst = false)
    (h : step s = .next t) :
    t.status.fsm = .decoding ∨ ∃ rest, left = rest + 1 ∧ 0 < rest ∧ t.Capturing rest := by
  obtain ⟨htime, hfsm, hlength⟩ := hs
  have htime' := stepKeepsTimeBase s t htime h
  refine (step_of_listening hfsm hrst h).imp_right fun ⟨hfsm', htimeoutL, hopen, hnext⟩ => ?_
  have hphase := step_phaseTime htime hrst h hnext
  have hlt := phaseTime_lt htime' hopen
  rw [step_cfg h] at hlt
  refine ⟨left - 1, by omega, by omega, htime', hfsm', ?_⟩
  rw [htimeoutL, step_cfg h]
  omega

theorem run_one {s t : State} (h : step s = .next t) : run 1 s = .next t := run_succ_iff.2 ⟨t, h, rfl⟩

theorem run_add {m n : Nat} {s t u : State} (hm : run m s = .next t) (hn : run n t = .next u) :
    run (m + n) s = .next u := by
  induction m generalizing s with
  | zero =>
    obtain rfl : s = t := by injection hm
    rwa [Nat.zero_add]
  | succ m ih =>
    obtain ⟨v, hstep, hrun⟩ := run_succ_iff.1 hm
    rw [Nat.succ_add]
    exact run_succ_iff.2 ⟨v, hstep, ih hrun⟩

theorem NoReset.mono {m n : Nat} {s : State} (h : NoReset n s) (hle : m ≤ n) : NoReset m s :=
  fun k hk => h k (hk.trans_le hle)

theorem NoReset.after {m n : Nat} {s t : State} (h : NoReset (m + n) s) (hrun : run m s = .next t) : NoReset n t :=
  fun k hk u hu => h (m + k) (Nat.add_lt_add_left hk m) u (run_add hrun hu)

/-- The pulse lasts its remaining cycles, and the last of them arms capture. -/
theorem State.Pulsing.run_to_listening {left window : Nat} {s : State} (hs : s.Pulsing left window)
    (hrst : NoReset left s) :
    (∃ t, run left s = .next t ∧ t.Capturing window) ∧
    ∀ i, i < left → ∃ u, run i s = .next u ∧ u.status.fsm = .requesting := by
  induction left generalizing s with
  | zero => exact absurd hs.left_pos (Nat.lt_irrefl 0)
  | succ left ih =>
    obtain ⟨v, hstep⟩ := exists_step_of_no_reset hrst.head
    rcases hs.after_step hrst.head hstep with ⟨rfl, harmed⟩ | hpulse
    · refine ⟨⟨v, run_one hstep, harmed⟩, fun i hi => ?_⟩
      obtain rfl := Nat.lt_one_iff.1 hi
      exact ⟨s, rfl, hs.fsm⟩
    · obtain ⟨⟨t, hrun, harmed⟩, hbefore⟩ := ih hpulse (hrst.tail hstep)
      refine ⟨⟨t, run_succ_iff.2 ⟨v, hstep, hrun⟩, harmed⟩, fun i hi => ?_⟩
      cases i with
      | zero => exact ⟨s, rfl, hs.fsm⟩
      | succ i =>
        obtain ⟨u, hrun, hfsm⟩ := hbefore i (Nat.lt_of_succ_lt_succ hi)
        exact ⟨u, run_succ_iff.2 ⟨v, hstep, hrun⟩, hfsm⟩

/-- The capture ends within its remaining cycles, or with the next where there is none. -/
theorem State.Capturing.run_to_decoding {left : Nat} {s : State} (hs : s.Capturing left)
    (hrst : NoReset (max 1 left) s) :
    ∃ c t, c ≤ max 1 left ∧ run c s = .next t ∧ t.status.fsm = .decoding := by
  induction left generalizing s with
  | zero =>
    obtain ⟨t, hstep⟩ := exists_step_of_no_reset (NoReset.head hrst)
    rcases hs.after_step (NoReset.head hrst) hstep with hdone | ⟨rest, hleft, -⟩
    · exact ⟨1, t, le_rfl, run_one hstep, hdone⟩
    · exact absurd hleft.symm rest.succ_ne_zero
  | succ left ih =>
    rw [max_eq_right left.succ_pos] at hrst ⊢
    obtain ⟨v, hstep⟩ := exists_step_of_no_reset hrst.head
    rcases hs.after_step hrst.head hstep with hdone | ⟨rest, hleft, hpos, hopen⟩
    · exact ⟨1, v, left.succ_pos, run_one hstep, hdone⟩
    · obtain rfl := Nat.succ.inj hleft
      rw [max_eq_right hpos] at ih
      obtain ⟨c, t, hc, hrun, hdone⟩ := ih hopen (hrst.tail hstep)
      exact ⟨c + 1, t, Nat.succ_le_succ hc, run_succ_iff.2 ⟨v, hstep, hrun⟩, hdone⟩

/-- Settles O35: the pulse that a SWD_START opens lasts (TSTART_L + 1)·CLK_PER_US cycles but for those that S.PRESC had
counted of its microsecond. -/
theorem startPulseLength : Obligations.StartPulseLength := by
  intro s hs hfsm hpcnt hrst
  have hpulse := pulsing_of_start hs hfsm hpcnt
  obtain ⟨-, hpresc⟩ := hs
  obtain ⟨⟨t, hrun, harmed⟩, hbefore⟩ := hpulse.run_to_listening (hrst.mono (Nat.sub_le _ _))
  refine ⟨_, ?_, Nat.sub_le _ _, ⟨t, hrun, harmed.fsm, by simp [State.dqOe, harmed.fsm]⟩, fun i hi => ?_⟩
  · rw [Nat.succ_mul]
    omega
  · obtain ⟨u, hrun, hfsm⟩ := hbefore i hi
    exact ⟨u, hrun, hfsm, by simp [State.dqOe, hfsm]⟩

/-- Settles O36: the pulse, the capture, and the cycle of the commit. -/
theorem acquisitionTerminates : Obligations.AcquisitionTerminates := by
  intro s hs hfsm hpcnt bound hrst
  have hpulse := pulsing_of_start hs hfsm hpcnt
  set pulse := (s.swd.tstartL.toNat + 1) * s.cfg.clkPerUs - s.presc
  set window := s.swd.timeoutL.toNat * s.cfg.clkPerUs
  have hbound : pulse + (max 1 window + 1) ≤ bound := by omega
  have hrst' := hrst.mono hbound
  obtain ⟨⟨v, hrun, hopen⟩, -⟩ := hpulse.run_to_listening (hrst'.mono (Nat.le_add_right _ _))
  have hrst'' := hrst'.after hrun
  obtain ⟨c, t, hc, hrun', hdecoding⟩ := hopen.run_to_decoding (hrst''.mono (Nat.le_succ _))
  have hlast : NoReset 1 t := NoReset.after (m := c) (hrst''.mono (Nat.succ_le_succ hc)) hrun'
  obtain ⟨u, hstep⟩ := exists_step_of_no_reset hlast.head
  have hcommit := run_add hrun hrun'
  exact ⟨pulse + c, t, u, by omega, hcommit, hdecoding, run_add hcommit (run_one hstep),
    step_done_of_decoding hdecoding hlast.head hstep, step_result_of_decoding hdecoding hlast.head hstep⟩

end Sys2Proof.Machine
end

section
/-! The two units (42_acquisition.md R203), by exchanging one unit of a state for that of another: phases (a) and (b) act
on the front end whatever the rest of the state is, and each transaction acts on one unit whatever the other is, but for a
write of STATUS, which clears the flags of both. -/

namespace Sys2Proof.Machine

/-- The induction step of a relation between two runs on the same inputs: a step keeps `R` if reset keeps it, phases (a)
and (b) lead from it to a relation `P` that implies it, and each transaction leads back from `P`. -/
theorem steps_keep {R P : State → State → Prop} (hreset : ∀ s t, R s t → R s.resetCycle t.resetCycle)
    (hphases : ∀ s t dq, R s t → P (s.internalPhases dq) (t.internalPhases dq)) (hweaken : ∀ s t, P s t → R s t)
    (hexec : ∀ i s t s' t', P s t → exec i s = .next s' → exec i t = .next t' → R s' t')
    (s t s' t' : State) (h : R s t) (hinput : s.nextInput = t.nextInput) (hs : step s = .next s')
    (ht : step t = .next t') : R s' t' := by
  rcases step_cases s with ⟨hrst, heq⟩ | ⟨hrst, hreq, heq⟩ | ⟨tw, hrst, hreq, heq⟩ <;> rw [heq] at hs <;>
    rw [hinput] at hrst
  · rw [step_of_reset t hrst] at ht
    injection hs with hs
    injection ht with ht
    exact hs ▸ ht ▸ hreset s t h
  · rw [step_of_no_request t hrst (hinput ▸ hreq)] at ht
    injection hs with hs
    injection ht with ht
    exact hs ▸ ht ▸ hweaken _ _ (hinput ▸ hphases s t _ h)
  · rw [step_of_request t tw hrst (hinput ▸ hreq)] at ht
    exact hexec _ _ _ _ _ (hinput ▸ hphases s t _ h) hs ht

/-- `c` with the front end's side of `s`, and with its mark of phase (b). -/
def State.withFrontEnd (c s : State) : State :=
  { c with
    cfg.clkPerUs := s.cfg.clkPerUs
    swd := s.swd
    ts := s.ts
    presc := s.presc
    doneIe := s.doneIe
    status.result := s.status.result
    status.fsm := s.status.fsm
    status.dataValid := s.status.dataValid
    status.done := s.status.done
    status.edge0Level := s.status.edge0Level
    status.errStartBusy := s.status.errStartBusy
    doneSetB := s.doneSetB }

/-- `t` with the controller's side of `s`. -/
def State.withController (t s : State) : State :=
  { t with
    cfg := s.cfg
    pic := s.pic
    status.luxValid := s.status.luxValid
    status.luxShort := s.status.luxShort
    status.cfgErr := s.status.cfgErr
    status.numErr := s.status.numErr
    status.pwmChanged := s.status.pwmChanged
    status.awFrozen := s.status.awFrozen }

theorem sameFrontEnd_withFrontEnd (c s : State) : sameFrontEnd s (c.withFrontEnd s) :=
  ⟨rfl, rfl, rfl, rfl, rfl, rfl, rfl, rfl, rfl, rfl, rfl⟩

theorem withFrontEnd_of_same {s t : State} (h : sameFrontEnd s t) (hheld : s.doneSetB = t.doneSetB) :
    t.withFrontEnd s = t := by
  obtain ⟨hclk, hswd, hts, hpresc, hie, hresult, hfsm, hvalid, hdone, hlevel, hbusy⟩ := h
  simp only [State.withFrontEnd, hclk, hswd, hts, hpresc, hie, hresult, hfsm, hvalid, hdone, hlevel, hbusy, hheld]

theorem sameController_withController (t s : State) : sameController s (t.withController s) :=
  ⟨rfl, rfl, rfl, rfl, rfl, rfl, rfl, rfl⟩

theorem withController_of_same {s t : State} (h : sameController s t) : t.withController s = t := by
  obtain ⟨hcfg, hpic, hluxValid, hluxShort, hcfgErr, hnumErr, hpwmChanged, hawFrozen⟩ := h
  simp only [State.withController, hcfg, hpic, hluxValid, hluxShort, hcfgErr, hnumErr, hpwmChanged, hawFrozen]

theorem sameFrontEnd_refl (s : State) : sameFrontEnd s s := sameFrontEnd_withFrontEnd s s

theorem sameFrontEnd.symm {s t : State} (h : sameFrontEnd s t) : sameFrontEnd t s := by
  simpa only [sameFrontEnd, eq_comm] using h

theorem sameFrontEnd.trans {s t u : State} (h : sameFrontEnd s t) (h' : sameFrontEnd t u) : sameFrontEnd s u := by
  unfold sameFrontEnd at *
  simp_all only [and_self]

theorem sameController.symm {s t : State} (h : sameController s t) : sameController t s := by
  simpa only [sameController, eq_comm] using h

theorem sameController.trans {s t u : State} (h : sameController s t) (h' : sameController t u) :
    sameController s u := by
  unfold sameController at *
  simp_all only [and_self]

theorem edgePhase_withFrontEnd (dq : Bool) (st0 : SwdState) (c s : State) :
    edgePhase dq st0 (c.withFrontEnd s) = c.withFrontEnd (edgePhase dq st0 s) := by
  unfold edgePhase
  rw [apply_ite c.withFrontEnd]
  rfl

theorem requestingStep_withFrontEnd (tick : Bool) (c s : State) :
    requestingStep tick (c.withFrontEnd s) = c.withFrontEnd (requestingStep tick s) := by
  unfold requestingStep
  dsimp only
  rw [apply_ite c.withFrontEnd]
  rfl

theorem listeningStep_withFrontEnd (tick : Bool) (c s : State) :
    listeningStep tick (c.withFrontEnd s) = c.withFrontEnd (listeningStep tick s) := by
  rw [listeningStep_eq, listeningStep_eq]
  rfl

theorem commitOutcome_withFrontEnd (c s : State) :
    commitOutcome (c.withFrontEnd s) = c.withFrontEnd (commitOutcome s) := by
  unfold commitOutcome
  rw [apply_ite c.withFrontEnd, apply_ite c.withFrontEnd]
  rfl

theorem commit_withFrontEnd (c s : State) : commit (c.withFrontEnd s) = c.withFrontEnd (commit s) := by
  unfold commit
  rw [commitOutcome_withFrontEnd]
  rfl

theorem fsmPhase_withFrontEnd (tick : Bool) (st0 : SwdState) (c s : State) :
    fsmPhase tick st0 (c.withFrontEnd s) = c.withFrontEnd (fsmPhase tick st0 s) := by
  cases st0
  case idle => rfl
  case requesting => exact requestingStep_withFrontEnd tick c s
  case listening => exact listeningStep_withFrontEnd tick c s
  case decoding => exact commit_withFrontEnd c s

/-- Phases (a) and (b) on a front end, whatever else the state holds. -/
theorem internalPhases_of_sameFrontEnd {s t : State} (h : sameFrontEnd s t) (dq : Bool) :
    t.internalPhases dq = t.beginCycle.withFrontEnd (s.internalPhases dq) := by
  have hsame : sameFrontEnd s.beginCycle t.beginCycle := h
  have hbegin : t.beginCycle = t.beginCycle.withFrontEnd s.beginCycle := (withFrontEnd_of_same hsame rfl).symm
  have htimer : timerPhase (t.beginCycle.withFrontEnd s.beginCycle) =
      t.beginCycle.withFrontEnd (timerPhase s.beginCycle) := rfl
  obtain ⟨hclk, -, -, hpresc, -, -, hfsm, -⟩ := h
  have htick : s.usTick = t.usTick := by rw [State.usTick, State.usTick, hclk, hpresc]
  rw [State.internalPhases, State.internalPhases, ← htick, ← hfsm, hbegin, htimer, edgePhase_withFrontEnd,
    fsmPhase_withFrontEnd]
  rfl

theorem internalPhases_sameController (s : State) (dq : Bool) : sameController s (s.internalPhases dq) := by
  obtain ⟨hcfg, -, hpic⟩ := internalPhases_frame s dq
  have hphases := internalPhases_of_sameFrontEnd (sameFrontEnd_refl s) dq
  rw [sameController, hcfg, hpic, hphases]
  exact ⟨rfl, rfl, rfl, rfl, rfl, rfl, rfl, rfl⟩

/-- The instructions that act on the front end. -/
def actsOnFrontEnd : Instr → Bool
  | .swdStart | .wrStatus _ | .wrIrqEn _ | .wrSwdTstart _ | .wrSwdTimeout _ => true
  | _ => false

/-- The instructions that act on the controller. -/
def actsOnController : Instr → Bool
  | .picSetpoint | .picLux | .picRegulate | .wrStatus _ | .wrPicS _ | .wrPicD _ | .wrPicA _ | .wrPicHour _
  | .wrPicLuxin _ => true
  | _ => false

theorem exec_sameFrontEnd_of_not {i : Instr} {s t : State} (hi : actsOnFrontEnd i = false) (h : exec i s = .next t) :
    sameFrontEnd s t := by
  cases effect_of_exec h
  case started | startBusy | acknowledged | irqEn | swdTstart | swdTimeout => cases hi
  all_goals exact ⟨rfl, rfl, rfl, rfl, rfl, rfl, rfl, rfl, rfl, rfl, rfl⟩

theorem exec_sameController_of_not {i : Instr} {s t : State} (hi : actsOnController i = false)
    (h : exec i s = .next t) : sameController s t := by
  cases effect_of_exec h
  case setpointDone | setpointConfig | setpointNumeric | luxShort | luxLoaded | regulateDone | regulateNumeric |
      acknowledged | picS | picD | picA | picHour | picLuxin => cases hi
  all_goals exact ⟨rfl, rfl, rfl, rfl, rfl, rfl, rfl, rfl⟩

theorem exec_withFrontEnd {i : Instr} {s s' : State} (hi : actsOnFrontEnd i = true) (h : exec i s = .next s')
    (c : State) : ∃ c' : State, exec i (c.withFrontEnd s) = .next (c'.withFrontEnd s') := by
  cases i
  case swdStart =>
    by_cases hidle : s.status.fsm = .idle
    · rw [exec_swdStart_of_idle hidle] at h
      injection h with h
      exact ⟨c.answer 0#32, h ▸ exec_swdStart_of_idle hidle⟩
    · rw [exec_swdStart_of_busy hidle] at h
      injection h with h
      exact ⟨c.answer 0#32, h ▸ exec_swdStart_of_busy hidle⟩
  case wrStatus d =>
    injection h with h
    exact ⟨(c.acknowledge d).answer 0#32, h ▸ rfl⟩
  case wrIrqEn | wrSwdTstart | wrSwdTimeout =>
    injection h with h
    exact ⟨c.answer 0#32, h ▸ rfl⟩
  all_goals cases hi

theorem exec_picLux_of_short {s : State} (h : (luxCount s.pic.luxIn).toNat < 2) :
    exec .picLux s = .next ((s.raise .luxShortfall).answer 0#32) :=
  congrArg (fun u => Host.Outcome.next (State.answer u 0#32)) (if_pos h)

theorem exec_picLux_of_count {s : State} (h : ¬(luxCount s.pic.luxIn).toNat < 2) :
    exec .picLux s = .next ({ s with pic := s.pic.loadLux s.cfg, status.luxValid := true }.answer 0#32) :=
  congrArg (fun u => Host.Outcome.next (State.answer u 0#32)) (if_neg h)

theorem setpointApplied_withController (t s : State) :
    setpointApplied (t.withController s) = t.withController (setpointApplied s) := by
  have hsame : setpoint (t.withController s).cfg (t.withController s).pic = setpoint s.cfg s.pic := rfl
  rcases setpointApplied_cases s with ⟨v, h, heq⟩ | ⟨h, heq⟩ | ⟨h, heq⟩ <;>
    rw [heq, setpointApplied, hsame, h] <;> rfl

/-- PIC_REGULATE writes the controller's side and the strobe, an output of its cycle alone (10_state.md R68). -/
theorem regulateApplied_withController (t s : State) :
    regulateApplied (t.withController s) =
      { t with pwmWe := (regulateApplied s).pwmWe }.withController (regulateApplied s) := by
  have hsame : regulate (t.withController s).cfg (t.withController s).pic = regulate s.cfg s.pic := rfl
  rcases regulateApplied_cases s with ⟨r, h, heq⟩ | ⟨h, heq⟩ <;> rw [heq, regulateApplied, hsame, h] <;> rfl

theorem exec_withController {i : Instr} {s s' : State} (hi : actsOnController i = true) (h : exec i s = .next s')
    (t : State) : ∃ t' : State, exec i (t.withController s) = .next (t'.withController s') := by
  cases i
  case picSetpoint =>
    injection h with h
    exact ⟨t.answer 0#32, h ▸ congrArg (fun u => Host.Outcome.next (State.answer u 0#32))
      (setpointApplied_withController t s)⟩
  case picLux =>
    by_cases hshort : (luxCount s.pic.luxIn).toNat < 2
    · rw [exec_picLux_of_short hshort] at h
      injection h with h
      exact ⟨t.answer 0#32, h ▸ exec_picLux_of_short hshort⟩
    · rw [exec_picLux_of_count hshort] at h
      injection h with h
      exact ⟨t.answer 0#32, h ▸ exec_picLux_of_count hshort⟩
  case picRegulate =>
    injection h with h
    exact ⟨{ t with pwmWe := (regulateApplied s).pwmWe }.answer 0#32,
      h ▸ congrArg (fun u => Host.Outcome.next (State.answer u 0#32)) (regulateApplied_withController t s)⟩
  case wrStatus d =>
    injection h with h
    exact ⟨(t.acknowledge d).answer 0#32, h ▸ rfl⟩
  case wrPicS | wrPicD | wrPicA | wrPicHour | wrPicLuxin =>
    injection h with h
    exact ⟨t.answer 0#32, h ▸ rfl⟩
  all_goals cases hi

/-- Settles O41: phases (a) and (b) and the transactions that act on the front end read nothing else, and the other
transactions leave it. -/
theorem frontEndIgnoresTheController : Obligations.FrontEndIgnoresTheController := by
  refine steps_keep (P := fun s t => sameFrontEnd s t ∧ s.doneSetB = t.doneSetB) ?_ ?_ (fun _ _ h => h.1) ?_
  · rintro s t ⟨hclk, -⟩
    exact ⟨hclk, rfl, rfl, rfl, rfl, rfl, rfl, rfl, rfl, rfl, rfl⟩
  · intro s t dq h
    rw [internalPhases_of_sameFrontEnd h dq]
    exact ⟨sameFrontEnd_withFrontEnd _ _, rfl⟩
  · intro i s t s' t' ⟨h, hheld⟩ hs ht
    cases hi : actsOnFrontEnd i
    case false => exact ((exec_sameFrontEnd_of_not hi hs).symm.trans h).trans (exec_sameFrontEnd_of_not hi ht)
    case true =>
      obtain ⟨c', hc⟩ := exec_withFrontEnd hi hs t
      rw [withFrontEnd_of_same h hheld, ht] at hc
      injection hc with hc
      exact hc ▸ sameFrontEnd_withFrontEnd c' s'

/-- Settles O42: phases (a) and (b) and the transactions of the front end leave the controller, and the others read
nothing else. -/
theorem controllerIgnoresTheFrontEnd : Obligations.ControllerIgnoresTheFrontEnd := by
  refine steps_keep (P := sameController) ?_ ?_ (fun _ _ => id) ?_
  · rintro s t ⟨hcfg, -⟩
    exact ⟨hcfg, rfl, rfl, rfl, rfl, rfl, rfl, rfl⟩
  · exact fun s t dq h =>
      ((internalPhases_sameController s dq).symm.trans h).trans (internalPhases_sameController t dq)
  · intro i s t s' t' h hs ht
    cases hi : actsOnController i
    case false => exact ((exec_sameController_of_not hi hs).symm.trans h).trans (exec_sameController_of_not hi ht)
    case true =>
      obtain ⟨c', hc⟩ := exec_withController hi hs t
      rw [withController_of_same h, ht] at hc
      injection hc with hc
      exact hc ▸ sameController_withController c' s'

end Sys2Proof.Machine
end

section
/-! The values that have an encoding (00_scope.md R11): every operation of R12 gives one, and its image decodes back to it. -/

namespace Sys2Proof.Machine

/-- A value of binary32: one that some word decodes to. `F32` also holds magnitudes that no encoding has. -/
def HasEncoding (x : F32) : Prop := ∃ w, decodeF32 w = x

theorem hasEncoding_decodeF32 (w : Word) : HasEncoding (decodeF32 w) := ⟨w, rfl⟩

theorem HasEncoding.decodeF32_encodeF32 {x : F32} (hx : HasEncoding x) : decodeF32 (encodeF32 x) = x := by
  obtain ⟨w, rfl⟩ := hx
  exact decodeF32_encodeF32_decodeF32 w

theorem hasEncoding_valueOfBits (neg : Bool) {b : Nat} (hb : b ≤ infBits) : HasEncoding (valueOfBits neg b) :=
  ⟨packF32 neg b, decodeF32_packF32 neg (hb.trans_lt infBits_lt)⟩

theorem hasEncoding_inf (neg : Bool) : HasEncoding (.inf neg) := hasEncoding_valueOfBits neg le_rfl

theorem hasEncoding_nan : HasEncoding .nan := ⟨nanWord 0#32, decodeF32_nanWord _⟩

/-- The finite values with an encoding are the signed magnitudes of the finite low bits. -/
theorem hasEncoding_fin_iff (neg : Bool) (mag : Nat) :
    HasEncoding (.fin neg mag) ↔ ∃ b, b < infBits ∧ magOfBits b = mag := by
  constructor
  · rintro ⟨w, hw⟩
    obtain ⟨n, b, hb, rfl⟩ := exists_packF32 w
    rw [decodeF32_packF32 n hb] at hw
    have hfin : b < infBits := (isFinite_valueOfBits n b).1 (by rw [hw]; rfl)
    rw [valueOfBits_of_lt n hfin] at hw
    injection hw with _ hmag
    exact ⟨b, hfin, hmag⟩
  · rintro ⟨b, hb, rfl⟩
    rw [← valueOfBits_of_lt neg hb]
    exact hasEncoding_valueOfBits neg hb.le

theorem hasEncoding_zero (neg : Bool) : HasEncoding (.fin neg 0) := (hasEncoding_fin_iff neg 0).2 ⟨0, by decide, rfl⟩

theorem hasEncoding_rnd32 (neg : Bool) (num den : Nat) : HasEncoding (rnd32 neg num den) :=
  hasEncoding_valueOfBits neg (roundedBits_le num den)

theorem hasEncoding_rndInt (zeroNeg : Bool) (x : Int) : HasEncoding (rndInt zeroNeg x) := by
  unfold rndInt
  split
  · exact hasEncoding_zero zeroNeg
  · exact hasEncoding_rnd32 _ _ _

theorem hasEncoding_fadd (x y : F32) : HasEncoding (fadd x y) := by
  unfold fadd
  split
  · exact hasEncoding_nan
  · exact hasEncoding_nan
  · split
    · exact hasEncoding_inf _
    · exact hasEncoding_nan
  · exact hasEncoding_inf _
  · exact hasEncoding_inf _
  · exact hasEncoding_rndInt _ _

theorem hasEncoding_fdiv (x y : F32) : HasEncoding (fdiv x y) := by
  unfold fdiv
  split
  · exact hasEncoding_nan
  · exact hasEncoding_nan
  · exact hasEncoding_nan
  · exact hasEncoding_inf _
  · exact hasEncoding_zero _
  · split
    · split
      · exact hasEncoding_nan
      · exact hasEncoding_inf _
    · exact hasEncoding_rnd32 _ _ _

end Sys2Proof.Machine
end

section
/-! Exact results: a magnitude with an encoding is rounded to itself (00_scope.md R12), so adding a zero, doubling and halving
lose nothing. -/

namespace Sys2Proof.Machine

/-- A ratio that is a magnitude is rounded to that magnitude's low bits, in a format without a greatest exponent. -/
theorem unboundedBits_magOfBits_mul (b : Nat) {den : Nat} (hden : 0 < den) :
    unboundedBits (magOfBits b * den) den = b := by
  have hnear := (unboundedBits_nearest (magOfBits b * den) hden b).1
  rw [Nat.cast_mul, mul_comm (magOfBits b : ℤ), sub_self, abs_zero, abs_nonpos_iff, ← mul_sub, mul_eq_zero,
    sub_eq_zero, Nat.cast_inj, magOfBits_inj] at hnear
  exact (hnear.resolve_left (by exact_mod_cast hden.ne')).symm

theorem rnd32_magOfBits_mul (neg : Bool) (b : Nat) {den : Nat} (hden : 0 < den) :
    rnd32 neg (magOfBits b * den) den = valueOfBits neg (min b infBits) := by
  rw [rnd32, roundedBits_eq_min, unboundedBits_magOfBits_mul b hden]

theorem rnd32_magOfBits_mul_of_lt (neg : Bool) {b den : Nat} (hb : b < infBits) (hden : 0 < den) :
    rnd32 neg (magOfBits b * den) den = .fin neg (magOfBits b) := by
  rw [rnd32_magOfBits_mul neg b hden, min_eq_left hb.le, valueOfBits_of_lt neg hb]

theorem rnd32_zero_left (neg : Bool) {den : Nat} (hden : 0 < den) : rnd32 neg 0 den = .fin neg 0 := by
  simpa using rnd32_magOfBits_mul_of_lt neg (b := 0) (by decide) hden

theorem fmul_fin (n m : Bool) (a b : Nat) : fmul (.fin n a) (.fin m b) = rnd32 (n != m) (a * b) (2 ^ 149) := rfl

theorem fdiv_fin {n m : Bool} {a b : Nat} (hb : 0 < b) :
    fdiv (.fin n a) (.fin m b) = rnd32 (n != m) (a * 2 ^ 149) b := if_neg hb.ne'

/-- Adding a zero changes a finite value at most in the sign of zero. -/
theorem fadd_zero_right {n : Bool} {a : Nat} (hx : HasEncoding (.fin n a)) (m : Bool) :
    fadd (.fin n a) (.fin m 0) = if a = 0 then .fin (n && m) 0 else .fin n a := by
  obtain ⟨b, hb, rfl⟩ := (hasEncoding_fin_iff n a).1 hx
  have hsum : signedMag n (magOfBits b) + signedMag m 0 = signedMag n (magOfBits b) := by cases m <;> simp [signedMag]
  have hexact := rnd32_magOfBits_mul_of_lt n hb one_pos
  rw [mul_one] at hexact
  simp only [fadd, hsum, rndInt, natAbs_signedMag]
  by_cases h0 : magOfBits b = 0
  · have : signedMag n (magOfBits b) = 0 := by rw [← Int.natAbs_eq_zero, natAbs_signedMag, h0]
    rw [if_pos this, if_pos h0]
  · have hne : signedMag n (magOfBits b) ≠ 0 := by rwa [← Int.natAbs_ne_zero, natAbs_signedMag]
    have hsign : decide (signedMag n (magOfBits b) < 0) = n := by
      cases n
      · exact decide_eq_false (Int.natCast_nonneg _).not_gt
      · exact decide_eq_true (neg_neg_of_pos (by exact_mod_cast Nat.pos_of_ne_zero h0))
    rw [if_neg hne, if_neg h0, hsign, hexact]

/-- Twice a magnitude is a magnitude, of the next binade or of the same where that has no leading bit. -/
theorem exists_magOfBits_eq_two_mul (b : Nat) : ∃ c, magOfBits c = magOfBits b * 2 := by
  obtain ⟨s, m, rfl, hm, hs⟩ := exists_significand b
  rw [magOfBits_significand hm.le hs]
  by_cases hlow : m < 2 ^ 23
  · obtain rfl : s = 0 := by omega
    exact ⟨0 * 2 ^ 23 + m * 2, by rw [magOfBits_significand (by omega) (.inl rfl)]; ring⟩
  · exact ⟨(s + 1) * 2 ^ 23 + m, by rw [magOfBits_significand hm.le (by omega), pow_succ]; ring⟩

/-- Doubling and halving again gives the value back, unless the double overflows. -/
theorem fdiv_fmul_ftwo {x : F32} (hx : HasEncoding x) (hfin : isFinite (fmul x ftwo) = true) :
    fdiv (fmul x ftwo) ftwo = x := by
  have hxfin : isFinite x = true := by
    cases x with
    | nan => cases hfin
    | inf n => cases hfin
    | fin n a => rfl
  obtain ⟨n, a, rfl⟩ := exists_fin_of_isFinite hxfin
  obtain ⟨b, hb, rfl⟩ := (hasEncoding_fin_iff n a).1 hx
  obtain ⟨c, hc⟩ := exists_magOfBits_eq_two_mul b
  have hdouble : fmul (.fin n (magOfBits b)) ftwo = rnd32 n (magOfBits c * 2 ^ 149) (2 ^ 149) := by
    rw [ftwo, f32OfNat, fmul_fin, hc, mul_assoc, Bool.bne_false]
  rw [hdouble, rnd32_magOfBits_mul n c (by positivity), isFinite_valueOfBits] at hfin
  rw [hdouble, rnd32_magOfBits_mul_of_lt n (by omega) (by positivity), ftwo, f32OfNat, fdiv_fin (by positivity), hc,
    mul_assoc, Bool.bne_false, rnd32_magOfBits_mul_of_lt n hb (by positivity)]

theorem magOfBits_le_of_lt {b : Nat} (hb : b < infBits) : magOfBits b ≤ (2 ^ 24 - 1) * 2 ^ 253 := by
  rw [← magOfBits_maxFinite]
  exact magOfBits_strictMono.monotone (Nat.le_sub_one_of_lt hb)

/-- A finite value divided by one of magnitude 1 or more is finite. -/
theorem isFinite_fdiv_of_one_le {n m : Bool} {a d : Nat} (hx : HasEncoding (.fin n a)) (hd : 2 ^ 149 ≤ d) :
    isFinite (fdiv (.fin n a) (.fin m d)) = true := by
  obtain ⟨b, hb, rfl⟩ := (hasEncoding_fin_iff n a).1 hx
  have hpos : 0 < d := lt_of_lt_of_le (by positivity) hd
  have hsmall : magOfBits b * 2 ^ 149 < (2 ^ 25 - 1) * 2 ^ 252 * d :=
    calc magOfBits b * 2 ^ 149 ≤ (2 ^ 24 - 1) * 2 ^ 253 * d := Nat.mul_le_mul (magOfBits_le_of_lt hb) hd
      _ < (2 ^ 25 - 1) * 2 ^ 252 * d := Nat.mul_lt_mul_of_pos_right (by norm_num) hpos
  rw [fdiv_fin hpos, rnd32, isFinite_valueOfBits]
  exact lt_of_le_of_ne (roundedBits_le _ _) (mt (roundedBits_eq_infBits_iff _ hpos).1 (not_le.2 hsmall))

/-- A value with the sign bit 0 is not below +0.0. -/
theorem fle_zero_fin (mag : Nat) : fle fzero (.fin false mag) = true := by simp [fle, fzero, signedMag]

end Sys2Proof.Machine
end

section
/-! The order of finite values, and a sum with a positive term: it is not rounded below its other term (00_scope.md R12). -/

namespace Sys2Proof.Machine

theorem fle_iff_of_isFinite {x y : F32} (hx : isFinite x = true) (hy : isFinite y = true) :
    fle x y = true ↔ f32Val x ≤ f32Val y := by
  obtain ⟨n, a, rfl⟩ := exists_fin_of_isFinite hx
  obtain ⟨m, b, rfl⟩ := exists_fin_of_isFinite hy
  exact decide_eq_true_iff.trans (signedMag_le_iff n m a b)

theorem flt_iff_of_isFinite {x y : F32} (hx : isFinite x = true) (hy : isFinite y = true) :
    flt x y = true ↔ f32Val x < f32Val y := by
  obtain ⟨n, a, rfl⟩ := exists_fin_of_isFinite hx
  obtain ⟨m, b, rfl⟩ := exists_fin_of_isFinite hy
  exact decide_eq_true_iff.trans (signedMag_lt_iff n m a b)

theorem fle_eq_false_of_flt {x y : F32} (h : flt x y = true) : fle y x = false := by
  have hx : x ≠ .nan := by
    rintro rfl
    cases h
  have hy : y ≠ .nan := by
    rintro rfl
    cases x <;> cases h
  exact Bool.eq_false_iff.2 (mt (fle_iff hy hx).1 (not_le.2 ((flt_iff hx hy).1 h)))

/-- The values above zero have the sign bit 0 and a magnitude. -/
theorem exists_fin_of_pos {x : F32} (hfin : isFinite x = true) (hpos : fgt x fzero = true) :
    ∃ a, 0 < a ∧ x = .fin false a := by
  obtain ⟨n, a, rfl⟩ := exists_fin_of_isFinite hfin
  have hlt : (0 : ℤ) < signedMag n a := of_decide_eq_true hpos
  cases n with
  | false => exact ⟨a, Int.natCast_pos.1 hlt, rfl⟩
  | true => simp [signedMag] at hlt; omega

theorem abs_f32Val_lt {x : F32} (hx : HasEncoding x) (hfin : isFinite x = true) : |f32Val x| < 2 ^ 128 - 2 ^ 103 := by
  obtain ⟨n, a, rfl⟩ := exists_fin_of_isFinite hfin
  obtain ⟨b, hb, rfl⟩ := (hasEncoding_fin_iff n a).1 hx
  have hmag : (magOfBits b : ℚ) ≤ ((2 ^ 24 - 1) * 2 ^ 253 : ℕ) := Nat.cast_le.2 (magOfBits_le_of_lt hb)
  rw [f32Val_fin, abs_signFactor_mul, abs_of_nonneg (by positivity), div_lt_iff₀ (by positivity)]
  exact hmag.trans_lt (by norm_num)

/-- A sum that overflows is +infinity, since the sum exceeds a finite value; and a rounded sum below the other term would be
further from the exact one than that term is. -/
theorem fle_fadd_of_pos {x y z : F32} (hz : HasEncoding z) (hzfin : isFinite z = true) (hxfin : isFinite x = true)
    (hyfin : isFinite y = true) (hle : f32Val z ≤ f32Val x) (hpos : 0 < f32Val y) : fle z (fadd x y) = true := by
  obtain ⟨hover, hunder⟩ := correctlyRounded_fadd hxfin hyfin
  have hlt : f32Val z < f32Val x + f32Val y := by linarith
  generalize f32Val x + f32Val y = q at *
  rcases le_or_gt (2 ^ 128 - 2 ^ 103) |q| with hbig | hsmall
  · have hzlow := (abs_lt.1 (abs_f32Val_lt hz hzfin)).1
    have hq : ¬q < 0 := fun hneg => by rw [abs_of_neg hneg] at hbig; linarith
    rw [hover hbig, decide_eq_false hq]
    obtain ⟨n, a, rfl⟩ := exists_fin_of_isFinite hzfin
    rfl
  · obtain ⟨w, -, hfin, -, hnear⟩ := hunder hsmall
    obtain ⟨v, rfl⟩ := hz
    rw [fle_iff_of_isFinite hzfin hfin]
    by_contra hbelow
    have hdist := (hnear v hzfin).1
    rw [abs_of_pos (by linarith), abs_of_pos (by linarith)] at hdist
    linarith

theorem isFinite_of_fdiv {x y : F32} (h : isFinite (fdiv x y) = true) : isFinite x = true := by
  cases x with
  | nan => cases h
  | inf n => cases y <;> cases h
  | fin n a => rfl

theorem isFinite_of_fmul {x y : F32} (h : isFinite (fmul x y) = true) : isFinite y = true := by
  cases y with
  | fin m b => rfl
  | nan => cases x <;> cases h
  | inf m =>
    cases x with
    | nan => cases h
    | inf n => cases h
    | fin n a =>
      have hprod : fmul (.fin n a) (.inf m) = if a = 0 then .nan else .inf (n != m) := rfl
      rw [hprod] at h
      split at h <;> cases h

end Sys2Proof.Machine
end

section
/-! PIC_SETPOINT (43_controller.md R221 to R224): its value by the configuration check, the window and the numeric guard, and
what the instruction answers for each. -/

namespace Sys2Proof.Machine

theorem setpointConfigOk_iff (day dur amp hour : F32) :
    setpointConfigOk day dur amp hour = true ↔
      isFinite day = true ∧ isFinite dur = true ∧ isFinite amp = true ∧ isFinite hour = true ∧ fgt dur fzero = true := by
  simp [setpointConfigOk, and_assoc]

theorem inWindow_iff (day dur hour : F32) :
    inWindow day dur hour = true ↔ fle day hour = true ∧ fle hour (fadd day dur) = true := by
  simp [inWindow]

theorem setpointFinite_iff (twoPi day dur amp hour c : F32) :
    setpointFinite twoPi day dur amp hour c = true ↔
      isFinite (fsub hour day) = true ∧ isFinite (fmul twoPi (fsub hour day)) = true ∧
      isFinite (setpointAngle twoPi day dur hour) = true ∧ isFinite (fmul amp (fsub fone c)) = true ∧
      isFinite (raisedCosine amp c) = true := by
  simp [setpointFinite, and_assoc]

section
variable {twoPi day dur amp hour : F32}

theorem setpointOf_of_illegal (h : setpointConfigOk day dur amp hour = false) :
    setpointOf twoPi day dur amp hour = .error .configError := by
  simp [setpointOf, h]

theorem setpointOf_of_outside (hok : setpointConfigOk day dur amp hour = true) (h : inWindow day dur hour = false) :
    setpointOf twoPi day dur amp hour = .ok fzero := by
  simp [setpointOf, hok, h]

theorem setpointOf_of_inside (hok : setpointConfigOk day dur amp hour = true) (h : inWindow day dur hour = true) :
    setpointOf twoPi day dur amp hour =
      if setpointFinite twoPi day dur amp hour (cosF32 (setpointAngle twoPi day dur hour)) then
        .ok (raisedCosine amp (cosF32 (setpointAngle twoPi day dur hour)))
      else .error .numericError := by
  simp [setpointOf, hok, h]

end

theorem exec_picSetpoint_of_ok {s : State} {v : F32} (h : setpoint s.cfg s.pic = .ok v) :
    exec .picSetpoint s = .next ({ s with pic.consigne := encodeF32 v }.answer 0#32) := by
  change commandDone (setpointApplied s) = _
  simp only [setpointApplied, h, commandDone]

theorem exec_picSetpoint_of_error {s : State} {e : BlockError} (h : setpoint s.cfg s.pic = .error e) :
    exec .picSetpoint s = .next ((s.raise e).answer 0#32) := by
  change commandDone (setpointApplied s) = _
  simp only [setpointApplied, h, commandDone]

/-- Settles O47: the check, the window and the guard of the statement are the model's, conjunct by conjunct. -/
theorem setpointFollowsTheFormula : Obligations.SetpointFollowsTheFormula := by
  intro s day dur amp hour e t m x cs om q cnew
  split
  case isTrue hbad =>
    exact exec_picSetpoint_of_error
      (setpointOf_of_illegal (Bool.eq_false_iff.2 (mt (setpointConfigOk_iff ..).1 hbad)))
  case isFalse hgood =>
    have hok := (setpointConfigOk_iff ..).2 (not_not.1 hgood)
    split
    case isTrue hout =>
      exact exec_picSetpoint_of_ok (setpointOf_of_outside hok (Bool.eq_false_iff.2 (mt (inWindow_iff ..).1 hout)))
    case isFalse hnotout =>
      have hinside := setpointOf_of_inside (twoPi := decodeF32 s.cfg.twoPi) hok ((inWindow_iff ..).2 (not_not.1 hnotout))
      split
      case isTrue hfin =>
        exact exec_picSetpoint_of_ok (hinside.trans (if_pos ((setpointFinite_iff ..).2 hfin)))
      case isFalse hfin =>
        exact exec_picSetpoint_of_error (hinside.trans (if_neg (mt (setpointFinite_iff ..).1 hfin)))

/-- Settles O49: the setpoint reads neither the consigne nor the flags, so the second run has the first one's value. -/
theorem setpointIsIdempotent : Obligations.SetpointIsIdempotent := by
  intro s t h
  cases hvalue : setpoint s.cfg s.pic with
  | ok v =>
    rw [exec_picSetpoint_of_ok hvalue] at h
    injection h with h
    subst h
    exact exec_picSetpoint_of_ok hvalue
  | error e =>
    rw [exec_picSetpoint_of_error hvalue] at h
    injection h with h
    subst h
    have hagain : setpoint ((s.raise e).answer 0#32).cfg ((s.raise e).answer 0#32).pic = .error e := by simpa using hvalue
    rw [exec_picSetpoint_of_error hagain]
    cases e <;> rfl

end Sys2Proof.Machine
end

section
/-! The curve of PIC_SETPOINT (43_controller.md R225): where COS is 1.0 the setpoint is a zero with A's sign, where it is -1.0 it
is A. -/

namespace Sys2Proof.Machine

theorem getLsbD_sign_of_decodeF32 {w : Word} {n : Bool} {a : Nat} (h : decodeF32 w = .fin n a) : w.getLsbD 31 = n := by
  unfold decodeF32 valueOfBits at h
  split at h
  · injection h
  · split at h <;> cases h

/-- The sign bit of a word is the image of the zero with that sign. -/
theorem encodeF32_zero_of_sign {w : Word} {n : Bool} {a : Nat} (h : decodeF32 w = .fin n a) :
    encodeF32 (.fin n 0) = w &&& 0x80000000#32 := by
  have hmask : w &&& 0x80000000#32 = if w.getLsbD 31 then 0x80000000#32 else 0#32 := BitVec.and_twoPow w 31
  rw [hmask, getLsbD_sign_of_decodeF32 h]
  cases n <;> rfl

theorem eq_of_decodeF32_eq {w v : Word} (hv : decodeF32 v ≠ .nan) (h : decodeF32 w = decodeF32 v) : w = v := by
  rw [← encodeF32_decodeF32 v hv, ← h, encodeF32_decodeF32 w (h ▸ hv)]

/-- Equal values differ by +0.0, but for -0.0 less +0.0. -/
theorem fsub_of_signedMag_eq {n m : Bool} {a b : Nat} (h : signedMag n a = signedMag m b) :
    fsub (.fin n a) (.fin m b) = .fin (n && !m) 0 := by
  have hsum : signedMag n a + signedMag (!m) b = 0 := by
    rw [h]
    cases m <;> simp [signedMag]
  exact if_pos hsum

theorem raisedCosine_of_one (n : Bool) (a : Nat) : raisedCosine (.fin n a) fone = .fin n 0 := by
  have hom : fsub fone fone = .fin false 0 := by decide
  rw [raisedCosine, hom, fmul_fin, mul_zero, rnd32_zero_left _ (by positivity), ftwo, f32OfNat, fdiv_fin (by positivity),
    zero_mul, rnd32_zero_left _ (by positivity), Bool.bne_false, Bool.bne_false]

theorem fsub_one_neg_one : fsub fone (fneg fone) = ftwo := by decide

section
variable {twoPi day dur amp hour : F32}

/-- Inside the window, where the angle is finite and COS of it is known. -/
theorem setpointOf_of_cos {c : F32} (hok : setpointConfigOk day dur amp hour = true)
    (hwin : inWindow day dur hour = true) (hangle : isFinite (setpointAngle twoPi day dur hour) = true)
    (hcos : cosF32 (setpointAngle twoPi day dur hour) = c) (hq : isFinite (fmul amp (fsub fone c)) = true)
    (hnew : isFinite (raisedCosine amp c) = true) :
    setpointOf twoPi day dur amp hour = .ok (raisedCosine amp c) := by
  have hm := isFinite_of_fdiv hangle
  rw [setpointOf_of_inside hok hwin, hcos,
    if_pos ((setpointFinite_iff ..).2 ⟨isFinite_of_fmul hm, hm, hangle, hq, hnew⟩)]

theorem setpointOf_of_cos_one {n : Bool} {a : Nat} (hok : setpointConfigOk day dur (.fin n a) hour = true)
    (hwin : inWindow day dur hour = true) (hangle : isFinite (setpointAngle twoPi day dur hour) = true)
    (hcos : cosF32 (setpointAngle twoPi day dur hour) = fone) :
    setpointOf twoPi day dur (.fin n a) hour = .ok (.fin n 0) := by
  have hnew := raisedCosine_of_one n a
  rw [setpointOf_of_cos hok hwin hangle hcos (isFinite_of_fdiv (y := ftwo) ?_) ?_, hnew]
  · exact congrArg isFinite hnew
  · exact congrArg isFinite hnew

theorem setpointOf_of_cos_neg_one (hamp : HasEncoding amp) (hok : setpointConfigOk day dur amp hour = true)
    (hwin : inWindow day dur hour = true) (hangle : isFinite (setpointAngle twoPi day dur hour) = true)
    (hcos : cosF32 (setpointAngle twoPi day dur hour) = fneg fone) (hfin : isFinite (fmul amp ftwo) = true) :
    setpointOf twoPi day dur amp hour = .ok amp := by
  obtain ⟨-, -, hampfin, -, -⟩ := (setpointConfigOk_iff ..).1 hok
  have hnew : raisedCosine amp (fneg fone) = amp := by
    rw [raisedCosine, fsub_one_neg_one]
    exact fdiv_fmul_ftwo hamp hfin
  rw [setpointOf_of_cos hok hwin hangle hcos (by rwa [fsub_one_neg_one]) (by rwa [hnew]), hnew]

end

/-- At h = S the angle is +0.0. -/
theorem setpointAngle_of_zero {day dur hour : F32} (hdur : isFinite dur = true) (hpos : fgt dur fzero = true)
    (ht : fsub hour day = fzero) : setpointAngle (decodeF32 0x40C90FDB#32) day dur hour = fzero := by
  obtain ⟨d, hd, rfl⟩ := exists_fin_of_pos hdur hpos
  have hm : fmul (decodeF32 0x40C90FDB#32) fzero = fzero := by decide
  rw [setpointAngle, ht, hm, fzero, fdiv_fin hd, zero_mul, rnd32_zero_left _ hd, bne_self_eq_false]

/-- Values with h <= S and S <= h: their difference is +0.0, unless they are -0.0 and +0.0. -/
theorem fsub_of_equal_words {w v : Word} (hw : isFinite (decodeF32 w) = true) (hv : isFinite (decodeF32 v) = true)
    (hle : fle (decodeF32 v) (decodeF32 w) = true) (hge : fle (decodeF32 w) (decodeF32 v) = true)
    (hsigns : ¬(w = 0x80000000#32 ∧ v = 0#32)) : fsub (decodeF32 w) (decodeF32 v) = fzero := by
  obtain ⟨n, a, hn⟩ := exists_fin_of_isFinite hw
  obtain ⟨m, b, hm⟩ := exists_fin_of_isFinite hv
  have heq : signedMag n a = signedMag m b := by
    rw [hn, hm] at hle hge
    exact le_antisymm (of_decide_eq_true hge) (of_decide_eq_true hle)
  have hsign : (n && !m) = false := by
    cases n with
    | false => rfl
    | true =>
      cases m with
      | true => rfl
      | false =>
        obtain ⟨rfl, rfl⟩ : a = 0 ∧ b = 0 := by simp only [signedMag, cond_true, cond_false] at heq; omega
        exact absurd ⟨eq_of_decodeF32_eq (by decide) hn, eq_of_decodeF32_eq (by decide) hm⟩ hsigns
  rw [hn, hm, fsub_of_signedMag_eq heq, hsign, fzero]

/-- Settles O48: outside by R223; at h = S the angle is +0.0 and the window is entered, since fadd(S, D) is not below S; at the
two other angles by R7's values of COS and the exactness of doubling and halving. -/
theorem setpointCurveProperties : Obligations.SetpointCurveProperties := by
  intro s htwoPi hday hdur hamp hhour hpos day hour e x gives
  obtain ⟨-, -, hcosZero, hcosPi, hcosTwoPi⟩ := cosineMeetsItsConditions
  obtain ⟨n, a, hA⟩ := exists_fin_of_isFinite hamp
  have hok := (setpointConfigOk_iff ..).2 ⟨hday, hdur, hamp, hhour, hpos⟩
  have hangle : setpointAngle (decodeF32 s.cfg.twoPi) day (decodeF32 s.pic.duration) hour = x := rfl
  have givesZero (hle : fle day hour = true) (hwin : fle hour e = true) (hx : isFinite x = true)
      (hcos : cosF32 x = fone) : gives (s.pic.amplitude &&& 0x80000000#32) := by
    rw [← encodeF32_zero_of_sign hA]
    refine exec_picSetpoint_of_ok ?_
    unfold setpoint
    rw [hA] at hok ⊢
    exact setpointOf_of_cos_one hok ((inWindow_iff ..).2 ⟨hle, hwin⟩) hx hcos
  refine ⟨fun hout => ?_, fun hle hge hsigns => ?_, fun hle hwin hx => ?_, fun hle hwin hx hfin => ?_⟩
  · have houtside : inWindow day (decodeF32 s.pic.duration) hour = false := by
      rcases hout with h | h
      · rw [inWindow, fle_eq_false_of_flt h, Bool.false_and]
      · rw [inWindow, fle_eq_false_of_flt h, Bool.and_false]
    exact exec_picSetpoint_of_ok (setpointOf_of_outside hok houtside)
  · have hx : x = fzero := by
      rw [← hangle, htwoPi]
      exact setpointAngle_of_zero hdur hpos (fsub_of_equal_words hhour hday hle hge hsigns)
    have hwin : fle hour e = true :=
      fle_fadd_of_pos (hasEncoding_decodeF32 _) hhour hday hdur ((fle_iff_of_isFinite hhour hday).1 hge)
        (by simpa [f32Val, fzero, signedMag] using (flt_iff_of_isFinite rfl hdur).1 hpos)
    exact givesZero hle hwin (by rw [hx]; rfl) (by rw [hx, hcosZero])
  · exact givesZero hle hwin (by rw [hx]; decide) (by rw [hx, hcosTwoPi])
  · have hvalue : setpoint s.cfg s.pic = .ok (decodeF32 s.pic.amplitude) :=
      setpointOf_of_cos_neg_one (hasEncoding_decodeF32 _) hok ((inWindow_iff ..).2 ⟨hle, hwin⟩)
        (by rw [hangle, hx]; decide) (by rw [hangle, hx, hcosPi]) hfin
    have hexec := exec_picSetpoint_of_ok hvalue
    rwa [encodeF32_decodeF32 _ (by rw [hA]; exact F32.noConfusion)] at hexec

end Sys2Proof.Machine
end

section
/-! PIC_LUX (43_controller.md R226, R227): small counts are exact in binary32, and with the default divisors, which are 1.0 or
more, both quotients are finite. -/

namespace Sys2Proof.Machine

/-- An integer below 2^24 has an encoding: shifted up to a leading bit 23 it is a significand. -/
theorem hasEncoding_f32OfNat {n : Nat} (hn : n < 2 ^ 24) : HasEncoding (f32OfNat n) := by
  rw [f32OfNat, hasEncoding_fin_iff]
  rcases Nat.eq_zero_or_pos n with rfl | hpos
  · exact ⟨0, by decide, by simp⟩
  have hk : Nat.log2 n < 24 := (Nat.log2_lt hpos.ne').2 hn
  have hlow := Nat.log2_self_le hpos.ne'
  have hup := Nat.lt_log2_self (n := n)
  generalize Nat.log2 n = k at *
  have hshift : 2 ^ k * 2 ^ (23 - k) = 2 ^ 23 := by rw [← pow_add, Nat.add_sub_cancel' (by omega)]
  have hlead : 2 ^ 23 ≤ n * 2 ^ (23 - k) := hshift ▸ Nat.mul_le_mul_right _ hlow
  have hm : n * 2 ^ (23 - k) ≤ 2 ^ 24 := by
    calc n * 2 ^ (23 - k) ≤ 2 ^ (k + 1) * 2 ^ (23 - k) := Nat.mul_le_mul_right _ hup.le
      _ = 2 ^ 24 := by rw [pow_succ, mul_right_comm, hshift]; rfl
  refine ⟨(126 + k) * 2 ^ 23 + n * 2 ^ (23 - k), ?_, ?_⟩
  · unfold infBits
    omega
  · rw [magOfBits_significand hm (.inr hlead), mul_assoc, ← pow_add, show 23 - k + (126 + k) = 149 by omega]

theorem luxScale_eq (cfg : Config.Params) (raw : BitVec 16) :
    luxScale cfg raw = fdiv (fdiv (f32OfNat raw.toNat) (decodeF32 cfg.luxDiv1)) (decodeF32 cfg.luxDiv2) := rfl

theorem decodeF32_luxImage (cfg : Config.Params) (raw : BitVec 16) : decodeF32 (luxImage cfg raw) = luxScale cfg raw := by
  by_cases h : luxScale cfg raw = .nan
  · rw [luxImage_of_nan cfg raw h, h]
  · rw [luxImage, imageOf_of_ne_nan _ _ h]
    exact (hasEncoding_fdiv _ _).decodeF32_encodeF32

/-- A quotient of values with the sign bit 0, the divisor 1.0 or more, is one again. -/
theorem exists_fdiv_of_one_le {a d : Nat} (hx : HasEncoding (.fin false a)) (hd : 2 ^ 149 ≤ d) :
    ∃ c, fdiv (.fin false a) (.fin false d) = .fin false c := by
  have hpos : 0 < d := lt_of_lt_of_le (by positivity) hd
  have hfin := isFinite_fdiv_of_one_le (m := false) hx hd
  rw [fdiv_fin hpos, rnd32, isFinite_valueOfBits] at hfin
  exact ⟨_, (fdiv_fin hpos).trans (valueOfBits_of_lt _ hfin)⟩

/-- With the default divisors, the significand 0x99999A in the binade of 1.0 and the number 2, lux(raw) is finite, its sign
bit 0. -/
theorem exists_luxScale_defaultGains (m : Nat) (raw : BitVec 16) :
    ∃ c, luxScale (Config.defaultGains m) raw = .fin false c := by
  have hdiv1 : decodeF32 (Config.defaultGains m).luxDiv1 = .fin false (0x99999A * 2 ^ 126) := by
    rw [show (Config.defaultGains m).luxDiv1 = 0x3F99999A#32 from rfl]
    decide
  have hdiv2 : decodeF32 (Config.defaultGains m).luxDiv2 = .fin false (2 * 2 ^ 149) := by
    rw [show (Config.defaultGains m).luxDiv2 = 0x40000000#32 from rfl]
    decide
  obtain ⟨b, hb⟩ := exists_fdiv_of_one_le (d := 0x99999A * 2 ^ 126)
    (hasEncoding_f32OfNat (raw.isLt.trans (by norm_num))) (by norm_num)
  rw [luxScale_eq, hdiv1, hdiv2, f32OfNat, hb]
  exact exists_fdiv_of_one_le (hb ▸ hasEncoding_fdiv _ _) (by norm_num)

/-- Settles O51: the formula is the definition's; a count has an encoding; the defaults by evaluation and
`exists_luxScale_defaultGains`. -/
theorem luxIsFiniteAndNotNegative : Obligations.LuxIsFiniteAndNotNegative := by
  refine ⟨fun cfg raw => ⟨luxScale_eq cfg raw, ?_⟩, fun m raw => ?_⟩
  · exact (hasEncoding_f32OfNat (raw.isLt.trans (by norm_num))).decodeF32_encodeF32
  · obtain ⟨c, hc⟩ := exists_luxScale_defaultGains m raw
    have hconsts : decodeF32 0x3F99999A#32 = rnd32 false (12 * 2 ^ 149) 10 ∧ decodeF32 0x40000000#32 = f32OfNat 2 := by decide
    obtain ⟨hdiv1, hdiv2⟩ := hconsts
    exact ⟨hdiv1, rfl, hdiv2, congrArg isFinite hc, (congrArg (fle fzero) hc).trans (fle_zero_fin c)⟩

/-- lux(raw) does not depend on CLK_PER_US. -/
theorem luxImage_defaultGains (m : Nat) (raw : BitVec 16) :
    luxImage (Config.defaultGains m) raw = luxImage (Config.defaultGains 1) raw := rfl

/-- The raw count is the low half of PIC_LUXIN: BYTE0 above BYTE1 (20_memory.md R88). -/
theorem luxRawOf_eq (luxIn : BitVec 18) : luxRawOf luxIn = luxIn.extractLsb' 0 16 :=
  BitVec.extractLsb'_append_extractLsb'_eq_extractLsb' rfl

/-- Settles O50: the two cases of COUNT are the instruction's; the word is the image of a quotient, which decodes back. -/
theorem luxLoadsOrKeepsTheStaleValue : Obligations.LuxLoadsOrKeepsTheStaleValue := by
  refine ⟨by decide, fun s hshort => exec_picLux_of_short hshort, fun s hcount => ?_, fun cfg raw =>
    ⟨decodeF32_luxImage cfg raw, imageOf_of_ne_nan _ _⟩, fun m => ?_⟩
  · rw [exec_picLux_of_count (not_lt.2 hcount), Pic.loadLux, luxRawOf_eq]
    rfl
  · rw [luxImage_defaultGains, luxImage_defaultGains m 0xFFFF#16, luxImage_defaultGains m 0x05A0#16]
    decide

end Sys2Proof.Machine
end

section
/-! PIC_REGULATE (43_controller.md R229 to R235): the quantities of one regulation by name, the guard on them, and what the
instruction answers where it passes and where it does not. -/

namespace Sys2Proof.Machine

section
variable (cfg : Config.Params) (p : Pic)

/-- p, er, di and u of a regulation (43_controller.md R230). -/
def Pic.terms : RegTerms := regTerms cfg (decodeF32 p.consigne) (decodeF32 p.lux) (decodeF32 p.integ)

/-- Whether the integrator is frozen (43_controller.md R232). -/
def Pic.freezesIn : Bool := freezes (decodeF32 cfg.outMax) (p.terms cfg).di (p.terms cfg).u

/-- I', the integrator after the regulation (43_controller.md R233). -/
def Pic.integAfter : F32 := integNext (decodeF32 cfg.outMax) (p.terms cfg) (decodeF32 p.integ)

/-- y, the drive before the clamp (43_controller.md R234). -/
def Pic.unclamped : F32 := driveSum (p.terms cfg).p (p.integAfter cfg)

/-- The drive value (43_controller.md R234). -/
def Pic.driveAfter : F32 := clampDrive (decodeF32 cfg.outMax) (p.unclamped cfg)

/-- The numeric guard of a regulation (43_controller.md R231). -/
def Pic.Completes : Prop :=
  (p.terms cfg).finite = true ∧ isFinite (p.integAfter cfg) = true ∧ isFinite (p.unclamped cfg) = true

/-- What a regulation that completes writes (43_controller.md R232 to R235). -/
def Pic.regResult : RegResult where
  integ := if p.freezesIn cfg then p.integ else encodeF32 (p.integAfter cfg)
  output := encodeF32 (p.driveAfter cfg)
  pwm := u8 (p.driveAfter cfg)
  frozen := p.freezesIn cfg

end

theorem RegTerms.finite_iff (r : RegTerms) :
    r.finite = true ↔ isFinite r.p = true ∧ isFinite r.er = true ∧ isFinite r.di = true ∧ isFinite r.u = true := by
  simp [RegTerms.finite, and_assoc]

section
variable {cfg : Config.Params} {p : Pic}

theorem regulate_eq : regulate cfg p =
    if (p.terms cfg).finite && isFinite (p.integAfter cfg) && isFinite (p.unclamped cfg) then .ok (p.regResult cfg)
    else .error .numericError := rfl

theorem regulate_of_completes (h : p.Completes cfg) : regulate cfg p = .ok (p.regResult cfg) := by
  obtain ⟨hterms, hinteg, hsum⟩ := h
  rw [regulate_eq, hterms, hinteg, hsum]
  rfl

theorem regulate_of_not_completes (h : ¬p.Completes cfg) : regulate cfg p = .error .numericError := by
  refine regulate_eq.trans (if_neg fun hguard => h ?_)
  simpa [Pic.Completes, and_assoc] using hguard

theorem regulate_ok_iff {r : RegResult} : regulate cfg p = .ok r ↔ p.Completes cfg ∧ p.regResult cfg = r := by
  by_cases h : p.Completes cfg
  · simp [regulate_of_completes h, h]
  · simp [regulate_of_not_completes h, h]

theorem eq_numericError_of_regulate {e : BlockError} (h : regulate cfg p = .error e) : e = .numericError := by
  by_cases hc : p.Completes cfg
  · rw [regulate_of_completes hc] at h
    cases h
  · rw [regulate_of_not_completes hc] at h
    injection h with h
    exact h.symm

/-- A regulation reads the consigne, the luminosity and the integrator alone (43_controller.md R236). -/
theorem regulate_congr {q : Pic} (hconsigne : q.consigne = p.consigne) (hlux : q.lux = p.lux) (hinteg : q.integ = p.integ) :
    regulate cfg q = regulate cfg p := by
  simp only [regulate, hconsigne, hlux, hinteg]

theorem integAfter_of_freezes (h : p.freezesIn cfg = true) : p.integAfter cfg = decodeF32 p.integ := if_pos h

theorem integAfter_of_not_freezes (h : p.freezesIn cfg = false) :
    p.integAfter cfg = fadd (decodeF32 p.integ) (p.terms cfg).di := if_neg (ne_true_of_eq_false h)

theorem hasEncoding_integAfter : HasEncoding (p.integAfter cfg) := by
  cases h : p.freezesIn cfg with
  | true => exact integAfter_of_freezes h ▸ hasEncoding_decodeF32 _
  | false => exact integAfter_of_not_freezes h ▸ hasEncoding_fadd _ _

/-- The integrator's new word is the image of its new value; where it is frozen this is the word it had. -/
theorem regResult_integ (hfin : isFinite (p.integAfter cfg) = true) :
    (p.regResult cfg).integ = encodeF32 (p.integAfter cfg) := by
  cases h : p.freezesIn cfg with
  | true =>
    rw [integAfter_of_freezes h] at hfin ⊢
    rw [encodeF32_decodeF32 _ ((isFinite_iff _).1 hfin).1]
    exact if_pos h
  | false => exact if_neg (ne_true_of_eq_false h)

end

theorem exec_picRegulate_of_ok {s : State} {r : RegResult} (h : regulate s.cfg s.pic = .ok r) :
    exec .picRegulate s = .next ((s.regulated r).answer 0#32) := by
  change commandDone (regulateApplied s) = _
  simp only [regulateApplied, h, commandDone]

theorem exec_picRegulate_of_error {s : State} {e : BlockError} (h : regulate s.cfg s.pic = .error e) :
    exec .picRegulate s = .next ({ s.raise e with pwmWe := false }.answer 0#32) := by
  change commandDone (regulateApplied s) = _
  simp only [regulateApplied, h, commandDone]

/-- All that a PIC_REGULATE can do. -/
theorem exec_picRegulate_cases {s t : State} (h : exec .picRegulate s = .next t) :
    (s.pic.Completes s.cfg ∧ t = (s.regulated (s.pic.regResult s.cfg)).answer 0#32) ∨
    (¬s.pic.Completes s.cfg ∧ t = { s.raise .numericError with pwmWe := false }.answer 0#32) := by
  by_cases hc : s.pic.Completes s.cfg
  · rw [exec_picRegulate_of_ok (regulate_of_completes hc)] at h
    injection h with h
    exact .inl ⟨hc, h.symm⟩
  · rw [exec_picRegulate_of_error (regulate_of_not_completes hc)] at h
    injection h with h
    exact .inr ⟨hc, h.symm⟩

/-- Settles O52: the terms are the model's; the frozen integrator's word is its value's image, and an unchanged PIC_PWM the
rounded value itself. -/
theorem regulateFollowsTheLaw : Obligations.RegulateFollowsTheLaw := by
  intro s c l i outMax p er di u freeze i' y out r
  split
  case isTrue h =>
    obtain ⟨hp, her, hdi, hu, hinteg, hsum⟩ := h
    have hc : s.pic.Completes s.cfg := ⟨(RegTerms.finite_iff _).2 ⟨hp, her, hdi, hu⟩, hinteg, hsum⟩
    have hpwm : (if r = s.pic.pwm then s.pic.pwm else r) = r := ite_eq_right_iff.2 Eq.symm
    have hword : (s.pic.regResult s.cfg).integ = encodeF32 i' := regResult_integ hinteg
    rw [exec_picRegulate_of_ok (regulate_of_completes hc), State.regulated, hword, hpwm]
    rfl
  case isFalse h =>
    refine exec_picRegulate_of_error (regulate_of_not_completes fun hc => h ?_)
    obtain ⟨hterms, hinteg, hsum⟩ := hc
    obtain ⟨hp, her, hdi, hu⟩ := (RegTerms.finite_iff _).1 hterms
    exact ⟨hp, her, hdi, hu, hinteg, hsum⟩

/-- Settles O57: both runs have the same outcome by `regulate_congr`, and a completed one writes it alone. -/
theorem regulateIsDeterminedByItsOperands : Obligations.RegulateIsDeterminedByItsOperands := by
  intro s s' t t' hcfg hconsigne hlux hinteg hpwm ht ht'
  have hsame : regulate s'.cfg s'.pic = regulate s.cfg s.pic := by
    rw [← hcfg, regulate_congr hconsigne.symm hlux.symm hinteg.symm]
  cases h : regulate s.cfg s.pic with
  | ok r =>
    rw [exec_picRegulate_of_ok h] at ht
    rw [exec_picRegulate_of_ok (hsame.trans h)] at ht'
    injection ht with ht
    injection ht' with ht'
    subst ht ht'
    simp [hpwm]
  | error e =>
    obtain rfl := eq_numericError_of_regulate h
    rw [exec_picRegulate_of_error h] at ht
    rw [exec_picRegulate_of_error (hsame.trans h)] at ht'
    injection ht with ht
    injection ht' with ht'
    subst ht ht'
    simp [hinteg, hpwm]

end Sys2Proof.Machine
end

section
/-! Anti-windup (43_controller.md R232, R236, R237): a second regulation after one that froze, or that had di = 0, meets the same
quantities. -/

namespace Sys2Proof.Machine

/-- A finite sum has a finite first term. -/
theorem isFinite_of_fadd {x y : F32} (h : isFinite (fadd x y) = true) : isFinite x = true := by
  cases x with
  | fin n a => rfl
  | nan => cases h
  | inf n =>
    cases y with
    | nan => cases h
    | fin m b => cases h
    | inf m => cases n <;> cases m <;> cases h

/-- Adding the same zero again changes nothing more. -/
theorem fadd_zero_twice {x : F32} (hx : HasEncoding x) (hfin : isFinite x = true) (m : Bool) :
    fadd (fadd x (.fin m 0)) (.fin m 0) = fadd x (.fin m 0) := by
  obtain ⟨n, a, rfl⟩ := exists_fin_of_isFinite hfin
  rw [fadd_zero_right hx]
  split
  case isTrue => rw [fadd_zero_right (hasEncoding_zero _), if_pos rfl, Bool.and_assoc, Bool.and_self]
  case isFalse ha => rw [fadd_zero_right hx, if_neg ha]

theorem isFinite_fadd_zero {x : F32} (hx : HasEncoding x) (hfin : isFinite x = true) (m : Bool) :
    isFinite (fadd x (.fin m 0)) = true := by
  obtain ⟨n, a, rfl⟩ := exists_fin_of_isFinite hfin
  rw [fadd_zero_right hx]
  split <;> rfl

theorem exists_zero_of_balanced {x : F32} (hfin : isFinite x = true) (hlow : flt x fzero = false)
    (hup : fgt x fzero = false) : ∃ m, x = .fin m 0 := by
  obtain ⟨m, a, rfl⟩ := exists_fin_of_isFinite hfin
  have hnonneg : ¬signedMag m a < 0 := of_decide_eq_false hlow
  have hnonpos : ¬0 < signedMag m a := of_decide_eq_false hup
  have ha : a = 0 := by
    rw [← natAbs_signedMag m a]
    omega
  exact ⟨m, by rw [ha]⟩

theorem freezes_iff (outMax di u : F32) :
    freezes outMax di u = true ↔
      (fgt di fzero = true ∧ fgt u outMax = true) ∨ (flt di fzero = true ∧ flt u fzero = true) := by
  simp [freezes]

theorem freezes_of_zero (outMax : F32) (m : Bool) (u : F32) : freezes outMax (.fin m 0) u = false := by
  cases m <;> simp [freezes, fgt, flt, fzero, signedMag]

section
variable {cfg : Config.Params} {p q : Pic}

/-- A change of the integrator's word moves u alone of the terms. -/
theorem terms_of_same_operands (hconsigne : q.consigne = p.consigne) (hlux : q.lux = p.lux) :
    q.terms cfg =
      ⟨(p.terms cfg).p, (p.terms cfg).er, (p.terms cfg).di,
        fadd (fadd (p.terms cfg).p (decodeF32 q.integ)) (p.terms cfg).di⟩ := by
  rw [Pic.terms, hconsigne, hlux]
  rfl

theorem decodeF32_regResult_integ (hfin : isFinite (p.integAfter cfg) = true) :
    decodeF32 (p.regResult cfg).integ = p.integAfter cfg := by
  rw [regResult_integ hfin, hasEncoding_integAfter.decodeF32_encodeF32]

/-- After a frozen regulation the operands are the same. -/
theorem regulate_again_of_frozen (hc : p.Completes cfg) (hfrozen : p.freezesIn cfg = true)
    (hconsigne : q.consigne = p.consigne) (hlux : q.lux = p.lux) (hinteg : q.integ = (p.regResult cfg).integ) :
    regulate cfg q = .ok (p.regResult cfg) := by
  have hkept : (p.regResult cfg).integ = p.integ := if_pos hfrozen
  rw [regulate_congr hconsigne hlux (hinteg.trans hkept), regulate_of_completes hc]

theorem freezesIn_of_balanced {m : Bool} (hdi : (p.terms cfg).di = .fin m 0) : p.freezesIn cfg = false := by
  rw [Pic.freezesIn, hdi, freezes_of_zero]

/-- With di = 0 the integrator takes a zero more, which a second regulation does not change. -/
theorem integAfter_again_of_balanced {m : Bool} (hfin : isFinite (p.integAfter cfg) = true)
    (hdi : (p.terms cfg).di = .fin m 0) (hqdi : (q.terms cfg).di = .fin m 0)
    (hinteg : q.integ = (p.regResult cfg).integ) : q.integAfter cfg = p.integAfter cfg := by
  have hfirst := integAfter_of_not_freezes (freezesIn_of_balanced hdi)
  have hsecond := integAfter_of_not_freezes (freezesIn_of_balanced hqdi)
  rw [hinteg, decodeF32_regResult_integ hfin, hqdi] at hsecond
  rw [hdi] at hfirst
  rw [hsecond, hfirst]
  exact fadd_zero_twice (hasEncoding_decodeF32 _) (isFinite_of_fadd (hfirst ▸ hfin)) m

/-- With di = 0 a second regulation has the first one's result; its u is finite as the first one's y was. -/
theorem regulate_again_of_balanced (hc : p.Completes cfg) {m : Bool} (hdi : (p.terms cfg).di = .fin m 0)
    (hconsigne : q.consigne = p.consigne) (hlux : q.lux = p.lux) (hinteg : q.integ = (p.regResult cfg).integ) :
    regulate cfg q = .ok (p.regResult cfg) := by
  obtain ⟨hterms, hfin, hsum⟩ := hc
  obtain ⟨hp, her, hdiFin, -⟩ := (RegTerms.finite_iff _).1 hterms
  have hqterms := terms_of_same_operands (cfg := cfg) hconsigne hlux
  rw [hinteg, decodeF32_regResult_integ hfin] at hqterms
  have hqdi : (q.terms cfg).di = .fin m 0 := by rw [hqterms, hdi]
  have hqu : isFinite (q.terms cfg).u = true := by
    rw [hqterms, hdi]
    exact isFinite_fadd_zero (hasEncoding_fadd _ _) (isFinite_of_fadd hsum) m
  have hqInteg := integAfter_again_of_balanced hfin hdi hqdi hinteg
  have hqSum : q.unclamped cfg = p.unclamped cfg := by rw [Pic.unclamped, hqInteg, hqterms, Pic.unclamped]
  rw [regulate_ok_iff]
  refine ⟨⟨(RegTerms.finite_iff _).2 ⟨?_, ?_, ?_, hqu⟩, hqInteg ▸ hfin, hqSum ▸ hsum⟩, ?_⟩
  · rwa [hqterms]
  · rwa [hqterms]
  · rwa [hqterms]
  · simp [Pic.regResult, Pic.driveAfter, freezesIn_of_balanced hdi, freezesIn_of_balanced hqdi, hqInteg, hqSum]

end

/-- A regulation with the result of the last one changes no register and no flag. -/
theorem exec_picRegulate_again {s u : State} {r : RegResult}
    (hr : regulate s.cfg ((s.regulated r).answer 0#32).pic = .ok r)
    (h : exec .picRegulate ((s.regulated r).answer 0#32) = .next u) :
    u.pic = ((s.regulated r).answer 0#32).pic ∧ u.status = ((s.regulated r).answer 0#32).status ∧ u.pwmWe = false := by
  rw [exec_picRegulate_of_ok (s := (s.regulated r).answer 0#32) hr] at h
  injection h with h
  subst h
  simp

/-- Settles O53: the integrator's word by the freeze predicate, and a second regulation by
`regulate_again_of_frozen` and `regulate_again_of_balanced`. -/
theorem antiWindupFreezesTheIntegrator : Obligations.AntiWindupFreezesTheIntegrator := by
  intro s t h r
  rcases exec_picRegulate_cases h with ⟨hc, rfl⟩ | ⟨-, rfl⟩
  case inr => exact ⟨fun _ => by simp, fun hmoved => absurd (by simp) hmoved, fun u hnum => absurd hnum (by simp)⟩
  case inl =>
    have ⟨hterms, _, _⟩ := hc
    obtain ⟨-, -, hdi, -⟩ := (RegTerms.finite_iff _).1 hterms
    have hkept (hfrozen : s.pic.freezesIn s.cfg = true) : (s.pic.regResult s.cfg).integ = s.pic.integ := if_pos hfrozen
    refine ⟨fun hwindup => hkept ?_, fun hmoved => ?_, fun u _ hagain hu => ?_⟩
    · exact (freezes_iff ..).2 hwindup
    · have hfree : s.pic.freezesIn s.cfg = false := Bool.eq_false_iff.2 fun hfrozen => hmoved (hkept hfrozen)
      exact (if_neg (ne_true_of_eq_false hfree)).trans (congrArg encodeF32 (integAfter_of_not_freezes hfree))
    · refine exec_picRegulate_again ?_ hu
      rcases hagain with hfrozen | ⟨hlow, hup⟩
      · exact regulate_again_of_frozen hc hfrozen rfl rfl rfl
      · obtain ⟨m, hzero⟩ := exists_zero_of_balanced hdi hlow hup
        exact regulate_again_of_balanced hc hzero rfl rfl rfl

end Sys2Proof.Machine
end

section
/-! The drive (43_controller.md R234, R235): the clamped sum is in [+0.0, OUT_MAX] and not -0.0, since adding +0.0 leaves no
-0.0. -/

namespace Sys2Proof.Machine

/-- The output and PIC_PWM as a completed regulation leaves them. -/
def Pic.DriveOk (p : Pic) : Prop :=
  fle fzero (decodeF32 p.output) = true ∧ fle (decodeF32 p.output) (f32OfNat 255) = true ∧
  p.output ≠ 0x80000000#32 ∧ p.pwm = u8 (decodeF32 p.output)

theorem fle_of_flt_eq_false {x y : F32} (hx : isFinite x = true) (hy : isFinite y = true) (h : flt y x = false) :
    fle x y = true :=
  (fle_iff_of_isFinite hx hy).2 (not_lt.1 fun hlt => ne_true_of_eq_false h ((flt_iff_of_isFinite hy hx).2 hlt))

theorem fadd_fzero_ne_neg_zero {x : F32} (hx : HasEncoding x) : fadd x fzero ≠ .fin true 0 := by
  cases x with
  | nan => exact F32.noConfusion
  | inf n => exact F32.noConfusion
  | fin n a =>
    rw [fzero, fadd_zero_right hx]
    split
    case isTrue => simp
    case isFalse ha => exact fun h => ha (F32.fin.inj h).2

/-- The clamp of a finite value that is not -0.0. -/
theorem clampDrive_range {y : F32} (hy : HasEncoding y) (hfin : isFinite y = true) (hzero : y ≠ .fin true 0) :
    HasEncoding (clampDrive (f32OfNat 255) y) ∧ fle fzero (clampDrive (f32OfNat 255) y) = true ∧
    fle (clampDrive (f32OfNat 255) y) (f32OfNat 255) = true ∧ clampDrive (f32OfNat 255) y ≠ .fin true 0 := by
  unfold clampDrive
  split
  case isTrue => exact ⟨hasEncoding_zero false, by decide, by decide, by decide⟩
  case isFalse hlow =>
    split
    case isTrue => exact ⟨hasEncoding_f32OfNat (by norm_num), by decide, by decide, by decide⟩
    case isFalse hup =>
      exact ⟨hy, fle_of_flt_eq_false rfl hfin (Bool.eq_false_iff.2 hlow),
        fle_of_flt_eq_false hfin rfl (Bool.eq_false_iff.2 hup), hzero⟩

theorem driveOk_regulated {s : State} (houtMax : s.cfg.outMax = 0x437F0000#32) (hc : s.pic.Completes s.cfg) :
    (s.regulated (s.pic.regResult s.cfg)).pic.DriveOk := by
  obtain ⟨-, -, hsum⟩ := hc
  have h255 : decodeF32 s.cfg.outMax = f32OfNat 255 := by rw [houtMax]; decide
  have hdrive : s.pic.driveAfter s.cfg = clampDrive (f32OfNat 255) (s.pic.unclamped s.cfg) := by rw [Pic.driveAfter, h255]
  obtain ⟨henc, hlow, hup, hzero⟩ :=
    clampDrive_range (y := s.pic.unclamped s.cfg) (hasEncoding_fadd _ _) hsum (fadd_fzero_ne_neg_zero (hasEncoding_fadd _ _))
  rw [← hdrive] at henc hlow hup hzero
  have hdecode : decodeF32 (s.pic.regResult s.cfg).output = s.pic.driveAfter s.cfg := henc.decodeF32_encodeF32
  refine ⟨hdecode ▸ hlow, hdecode ▸ hup, fun hword => hzero ?_, congrArg u8 hdecode.symm⟩
  rw [← hdecode]
  exact (congrArg decodeF32 hword).trans (by decide)

/-- Settles O54: a completed regulation by `driveOk_regulated`; one that does not complete leaves the three registers. -/
theorem driveStaysInRange : Obligations.DriveStaysInRange := by
  intro s t houtMax h
  rcases exec_picRegulate_cases h with ⟨hc, rfl⟩ | ⟨-, rfl⟩
  · exact .inr (driveOk_regulated houtMax hc)
  · exact .inl (by simp)

end Sys2Proof.Machine
end

section
/-! The controller's registers over whole cycles: each has one writer (43_controller.md R224, R226, R233), and what the writers
leave keeps the invariant of a default build. -/

namespace Sys2Proof.Machine

/-- The transactions that change the controller's results. -/
theorem exec_writers {i : Instr} {s t : State} (h : exec i s = .next t) :
    (t.pic.integ ≠ s.pic.integ → i = .picRegulate) ∧ (t.pic.output ≠ s.pic.output → i = .picRegulate) ∧
    (t.pic.consigne ≠ s.pic.consigne → i = .picSetpoint) ∧
    (t.pic.lux ≠ s.pic.lux → i = .picLux) ∧ (t.pic.luxRaw ≠ s.pic.luxRaw → i = .picLux) := by
  cases effect_of_exec h
  case setpointDone | luxLoaded | regulateDone => simp [Pic.loadLux]
  all_goals simp

/-- Settles O56: phases (a) and (b) leave the controller; the rest is the cycle's transaction. -/
theorem controllerRegistersHaveOneWriter : Obligations.ControllerRegistersHaveOneWriter := by
  intro s t hrst hstep ran
  obtain ⟨-, -, hpic⟩ := internalPhases_frame s s.nextInput.dqIn
  rcases step_cases_of_no_reset hrst hstep with ⟨-, rfl⟩ | ⟨tw, hreq, hexec⟩
  · simp [hpic]
  · have hwriters := exec_writers hexec
    rw [hpic] at hwriters
    have hran {i : Instr} (hi : decodeTW tw = i) : ran i := ⟨tw, hreq, hi⟩
    obtain ⟨hinteg, houtput, hconsigne, hlux, hluxRaw⟩ := hwriters
    exact ⟨fun h => hran (hinteg h), fun h => hran (houtput h), fun h => hran (hconsigne h), fun h => hran (hlux h),
      fun h => hran (hluxRaw h)⟩

/-- A setpoint that completes is finite and has an encoding. -/
theorem setpoint_ok_finite {cfg : Config.Params} {p : Pic} {v : F32} (h : setpoint cfg p = .ok v) :
    isFinite (decodeF32 (encodeF32 v)) = true := by
  suffices HasEncoding v ∧ isFinite v = true by
    obtain ⟨henc, hfin⟩ := this
    rwa [henc.decodeF32_encodeF32]
  unfold setpoint at h
  cases hok : setpointConfigOk (decodeF32 p.dayStart) (decodeF32 p.duration) (decodeF32 p.amplitude) (decodeF32 p.hour) with
  | false =>
    rw [setpointOf_of_illegal hok] at h
    cases h
  | true =>
    cases hwin : inWindow (decodeF32 p.dayStart) (decodeF32 p.duration) (decodeF32 p.hour) with
    | false =>
      rw [setpointOf_of_outside hok hwin] at h
      injection h with h
      exact h ▸ ⟨hasEncoding_zero false, rfl⟩
    | true =>
      rw [setpointOf_of_inside hok hwin] at h
      split at h
      case isTrue hguard =>
        obtain ⟨-, -, -, -, hnew⟩ := (setpointFinite_iff ..).1 hguard
        injection h with h
        exact h ▸ ⟨hasEncoding_fdiv _ _, hnew⟩
      case isFalse => cases h

theorem decodeF32_luxImage_defaultGains {cfg : Config.Params} (hcfg : cfg = Config.defaultGains cfg.clkPerUs)
    (raw : BitVec 16) :
    isFinite (decodeF32 (luxImage cfg raw)) = true ∧ fle fzero (decodeF32 (luxImage cfg raw)) = true := by
  obtain ⟨c, hc⟩ := exists_luxScale_defaultGains cfg.clkPerUs raw
  rw [← hcfg] at hc
  rw [decodeF32_luxImage, hc]
  exact ⟨rfl, fle_zero_fin c⟩

theorem exec_controllerOk (i : Instr) {s t : State} (hcfg : s.cfg = Config.defaultGains s.cfg.clkPerUs)
    (hs : s.controllerOk) (h : exec i s = .next t) : t.controllerOk := by
  have ⟨hconsigne, hlux, hluxNonneg, hinteg, hdrive⟩ := hs
  cases effect_of_exec h
  case setpointDone v hv => exact ⟨setpoint_ok_finite hv, hlux, hluxNonneg, hinteg, hdrive⟩
  case luxLoaded =>
    obtain ⟨hfin, hnonneg⟩ := decodeF32_luxImage_defaultGains hcfg (luxRawOf s.pic.luxIn)
    exact ⟨hconsigne, hfin, hnonneg, hinteg, hdrive⟩
  case regulateDone r hr =>
    obtain ⟨hc, rfl⟩ := regulate_ok_iff.1 hr
    have ⟨_, hfin, _⟩ := hc
    have houtMax : s.cfg.outMax = 0x437F0000#32 := by rw [hcfg]; rfl
    exact ⟨hconsigne, hlux, hluxNonneg, (congrArg isFinite (decodeF32_regResult_integ hfin)).trans hfin,
      driveOk_regulated houtMax hc⟩
  all_goals exact hs

theorem resetCycle_controllerOk (s : State) : s.resetCycle.controllerOk := by
  unfold State.controllerOk
  rw [resetCycle_pic]
  decide

/-- Settles O58: with the default gains, which no step changes, reset establishes the invariant, phases (a) and (b) leave the
controller, and each of its writers keeps it. -/
theorem stepKeepsController : Obligations.StepKeepsController := by
  intro s t hcfg hs hstep
  have hkept : t.cfg = Config.defaultGains t.cfg.clkPerUs ∧ t.controllerOk := by
    refine step_keeps (P := fun u => u.cfg = Config.defaultGains u.cfg.clkPerUs ∧ u.controllerOk) ?_ ?_ ?_ ⟨hcfg, hs⟩ hstep
    · exact fun u ⟨hu, _⟩ => ⟨hu, resetCycle_controllerOk u⟩
    · intro u dq ⟨hu, hok⟩
      obtain ⟨hphases, -, hpic⟩ := internalPhases_frame u dq
      rw [State.controllerOk, hphases, hpic]
      exact ⟨hu, hok⟩
    · intro i u v ⟨hu, hok⟩ hexec
      obtain ⟨hframe, -⟩ := exec_frame i u v hexec
      exact ⟨hframe ▸ hu, exec_controllerOk i hu hok hexec⟩
  exact hkept.2

end Sys2Proof.Machine
end

section
/-! No halt (60_exceptions.md R263, R282): the two cases of a cycle, with and without reset. -/

namespace Sys2Proof.Machine

/-- Settles O7: by the cases of a transaction, and of `rst` for a cycle. -/
theorem everyCycleCompletes : Obligations.EveryCycleCompletes := by
  refine ⟨exists_exec_eq_next, fun s => ?_⟩
  cases hrst : s.nextInput.rst
  case false => exact exists_step_of_no_reset hrst
  case true => exact ⟨_, step_of_reset s hrst⟩

end Sys2Proof.Machine
end

section
/-! The interrupt (60_exceptions.md R270, R271): over a cycle SWD_DONE comes by a commit and goes by a write of STATUS, and
DONE_IE moves by a write of IRQ_EN. -/

namespace Sys2Proof.Machine

theorem irq_iff (s : State) : s.irq = true ↔ s.status.done = true ∧ s.doneIe = true := Bool.and_eq_true_iff

/-- The one word of a write (30_encoding.md R101, R104): a write keeps every bit of its word. -/
theorem decodeTW_eq_decodeWrite {tw : TW} {r : Reg} {d : Word} (h : decodeTW tw = decodeWrite d r) :
    tw = packTW true r.offset d := by
  have hcanon : canonicalTW tw = packTW true r.offset d := by
    obtain ⟨-, hencode⟩ := encodeOfDecodeIsCanonical tw
    rw [← hencode, h, encode_decodeWrite]
  cases hreg : Reg.ofOffset (addrOf tw) with
  | none => rwa [canonicalTW_of_none hreg] at hcanon
  | some r' =>
    rw [canonicalTW_of_some hreg] at hcanon
    split at hcanon
    case isTrue => exact hcanon
    case isFalse => exact absurd (packTW_inj.1 hcanon).1 Bool.false_ne_true

/-- A transaction leaves DONE_IE, or it is a write of IRQ_EN, which stores its bit (10_state.md R38). -/
theorem exec_doneIe {i : Instr} {s t : State} (h : exec i s = .next t) :
    t.doneIe = s.doneIe ∨ ∃ d : Word, i = .wrIrqEn d ∧ t.doneIe = d.getLsbD 0 := by
  cases effect_of_exec h
  case irqEn d => exact .inr ⟨d, rfl, rfl⟩
  all_goals exact .inl rfl

/-- `exec_doneIe` for a whole cycle. -/
theorem step_doneIe {s t : State} (hrst : s.nextInput.rst = false) (h : step s = .next t) :
    t.doneIe = s.doneIe ∨
    ∃ d : Word, s.nextInput.req = some (packTW true Reg.irqEn.offset d) ∧ t.doneIe = d.getLsbD 0 := by
  obtain ⟨-, hphases, -⟩ := internalPhases_frame s s.nextInput.dqIn
  rcases step_cases_of_no_reset hrst h with ⟨-, rfl⟩ | ⟨tw, hreq, hexec⟩
  · exact .inl hphases
  · refine (exec_doneIe hexec).imp (·.trans hphases) fun ⟨d, hdecode, hbit⟩ => ⟨d, ?_, hbit⟩
    rw [hreq, decodeTW_eq_decodeWrite (r := .irqEn) hdecode]

theorem internalPhases_done_iff (s : State) (dq : Bool) :
    (s.internalPhases dq).status.done = true ↔ s.status.done = true ∨ s.status.fsm = .decoding := by
  have hdone : (s.internalPhases dq).status.done = _ := value_internalPhases .done s dq
  simp [hdone, StickyFlag.value]

/-- SWD_DONE is set by a commit alone (42_acquisition.md R199). -/
theorem done_of_step {s t : State} (hrst : s.nextInput.rst = false) (h : step s = .next t)
    (hdone : t.status.done = true) : s.status.done = true ∨ s.status.fsm = .decoding := by
  rw [← internalPhases_done_iff s s.nextInput.dqIn]
  rcases step_done hrst h with heq | ⟨d, heq⟩
  · exact heq ▸ hdone
  · rw [heq, w1c, Bool.and_eq_true] at hdone
    exact hdone.1

/-- The cycle of a write of IRQ_EN stores its bit, and leaves SWD_DONE as phases (a) and (b) leave it. -/
theorem step_of_wrIrqEn {s t : State} {d : Word} (hrst : s.nextInput.rst = false)
    (hreq : s.nextInput.req = some (packTW true Reg.irqEn.offset d)) (h : step s = .next t) :
    t.doneIe = d.getLsbD 0 ∧ (t.status.done = true ↔ s.status.done = true ∨ s.status.fsm = .decoding) := by
  rw [step_of_write hrst hreq] at h
  injection h with h
  exact h ▸ ⟨rfl, internalPhases_done_iff s _⟩

/-- Outside a commit cycle a write of STATUS with SWD_DONE's bit clears SWD_DONE (40_cycle_and_bus.md R137). -/
theorem step_done_of_wrStatus {s t : State} {d : Word} (hrst : s.nextInput.rst = false)
    (hreq : s.nextInput.req = some (packTW true 0x04#8 d)) (hbit : d.getLsbD 5 = true)
    (hfsm : s.status.fsm ≠ .decoding) (h : step s = .next t) : t.status.done = false := by
  obtain ⟨t', hstep, hvalue⟩ := step_of_wrStatus hrst hreq
  obtain rfl : t' = t := by rw [hstep] at h; injection h
  have hdone : t'.status.done = (s.status.done && !d.getLsbD 5) := (hvalue .done).trans (if_neg fun hset => hfsm hset.2)
  rw [hdone, hbit]
  exact Bool.and_false _

/-- Settles O23: `irq` is the conjunction of two bits, and each clause is what the cycle does to both. -/
theorem interruptRisesOnlyByCommitOrEnable : Obligations.InterruptRisesOnlyByCommitOrEnable := by
  refine ⟨fun _ t _ => irq_iff t, ?_⟩
  intro s t hrst hstep statusWrite enableWrite
  refine ⟨?_, ?_, ?_, ?_, ?_⟩
  · intro hirq
    obtain ⟨hdone, hie⟩ := (irq_iff t).1 hirq
    rcases step_doneIe hrst hstep with hkept | ⟨d, hwrite, hbit⟩
    · exact (done_of_step hrst hstep hdone).imp (fun hs => (irq_iff s).2 ⟨hs, hkept ▸ hie⟩) .inl
    · exact .inr (.inr ⟨d, hwrite, hbit ▸ hie⟩)
  · exact fun hfsm hie => (irq_iff t).2 ⟨step_done_of_decoding hfsm hrst hstep, hie⟩
  · intro d hwrite
    obtain ⟨hie, hdone⟩ := step_of_wrIrqEn hrst hwrite hstep
    rw [irq_iff, hie, hdone, and_comm]
  · intro d hwrite hbit hfsm
    rw [State.irq, step_done_of_wrStatus hrst hwrite hbit hfsm hstep, Bool.false_and]
  · intro hirq
    obtain ⟨hdone, hie⟩ := (irq_iff s).1 hirq
    obtain ⟨hsticky, -⟩ := flagsAreSticky s t hrst hstep
    rcases hsticky hdone with hdone' | hcleared
    · rcases step_doneIe hrst hstep with hkept | ⟨d, hwrite, hbit⟩
      · exact .inl ((irq_iff t).2 ⟨hdone', hkept.trans hie⟩)
      · cases hd : d.getLsbD 0
        case true => exact .inl ((irq_iff t).2 ⟨hdone', hbit.trans hd⟩)
        case false => exact .inr (.inr ⟨d, hwrite, hd⟩)
    · exact .inr (.inl hcleared)

end Sys2Proof.Machine
end

section
/-! The sticky flags and the result code are records alone (60_exceptions.md R263): each transaction is run on a state and on
the same state without them. -/

namespace Sys2Proof.Machine

/-- STATUS without its W1C flags and its result code. -/
def Status.unflagged (st : Status) : Status :=
  { st with
    result := .none
    done := false
    errIllegalCmd := false
    errStartBusy := false
    luxShort := false
    cfgErr := false
    numErr := false
    pwmChanged := false
    errBus := false }

/-- The state without its W1C flags and its result code. -/
def State.unflagged (s : State) : State := { s with status := s.status.unflagged }

/-- Writing ones to all of STATUS clears the flags, where phase (b) holds none. -/
theorem ack_allOnes (st : Status) : { st.ack 0xFFFFFFFF#32 false with result := .none } = st.unflagged := by
  simp [Status.ack, Status.unflagged]

theorem unflagged_setpointApplied (s : State) :
    (setpointApplied s).unflagged = (setpointApplied s.unflagged).unflagged := by
  have hsame : setpoint s.unflagged.cfg s.unflagged.pic = setpoint s.cfg s.pic := rfl
  rcases setpointApplied_cases s with ⟨v, h, heq⟩ | ⟨h, heq⟩ | ⟨h, heq⟩ <;>
    rw [heq, setpointApplied, hsame, h] <;> rfl

theorem unflagged_regulateApplied (s : State) :
    (regulateApplied s).unflagged = (regulateApplied s.unflagged).unflagged := by
  have hsame : regulate s.unflagged.cfg s.unflagged.pic = regulate s.cfg s.pic := rfl
  rcases regulateApplied_cases s with ⟨r, h, heq⟩ | ⟨h, heq⟩ <;> rw [heq, regulateApplied, hsame, h] <;> rfl

/-- `t` and `u` differ at most in the W1C flags, the result code and the read data. -/
def State.SameButFlags (t u : State) : Prop :=
  { t.unflagged with rdata := 0#32 } = { u.unflagged with rdata := 0#32 }

theorem sameButFlags_answer {t u : State} (h : t.unflagged = u.unflagged) (v w : Word) :
    (t.answer v).SameButFlags (u.answer w) := by
  have heq := congrArg (fun x : State => { x with rdata := 0#32, busErr := false }) h
  exact heq

/-- A transaction on a state and on the same state without its flags: the branches it takes depend on no flag, and of the
reads that of STATUS alone returns one. -/
theorem exec_unflagged (i : Instr) (s : State) :
    ∃ t u, exec i s = .next t ∧ exec i s.unflagged = .next u ∧ t.SameButFlags u ∧ (i ≠ .rdStatus → t.rdata = u.rdata) := by
  cases i
  case swdStart =>
    by_cases hidle : s.status.fsm = .idle
    · exact ⟨_, _, exec_swdStart_of_idle hidle, exec_swdStart_of_idle (s := s.unflagged) hidle, rfl, fun _ => rfl⟩
    · exact ⟨_, _, exec_swdStart_of_busy hidle, exec_swdStart_of_busy (s := s.unflagged) hidle, rfl, fun _ => rfl⟩
  case picLux =>
    by_cases hshort : (luxCount s.pic.luxIn).toNat < 2
    · exact ⟨_, _, exec_picLux_of_short hshort, exec_picLux_of_short (s := s.unflagged) hshort, rfl, fun _ => rfl⟩
    · exact ⟨_, _, exec_picLux_of_count hshort, exec_picLux_of_count (s := s.unflagged) hshort, rfl, fun _ => rfl⟩
  case picSetpoint =>
    exact ⟨_, _, rfl, rfl, sameButFlags_answer (unflagged_setpointApplied s) _ _, fun _ => rfl⟩
  case picRegulate =>
    exact ⟨_, _, rfl, rfl, sameButFlags_answer (unflagged_regulateApplied s) _ _, fun _ => rfl⟩
  case rdStatus => exact ⟨_, _, rfl, rfl, rfl, absurd rfl⟩
  all_goals exact ⟨_, _, rfl, rfl, rfl, fun _ => rfl⟩

/-- Settles O22: `exec_unflagged`, where clearing the flags is `State.unflagged`. -/
theorem flagsChangeNoBehaviour : Obligations.FlagsChangeNoBehaviour := by
  intro i s t u unflag ht hu
  have hunflag : unflag = State.unflagged :=
    funext fun v => congrArg (fun st => { v with status := st }) (ack_allOnes v.status)
  rw [hunflag] at hu ⊢
  obtain ⟨t', u', ht', hu', hsame⟩ := exec_unflagged i s
  obtain rfl : t' = t := by rw [ht'] at ht; injection ht
  obtain rfl : u' = u := by rw [hu'] at hu; injection hu
  exact hsame

end Sys2Proof.Machine
end

section
/-! Reset (70_reset_and_hazards.md R290, R291): one reset cycle brings the reset state whatever the state before it, so that
a further one moves the environment's records alone. Then what the registers read in that state, and the invariants it meets. -/

namespace Sys2Proof.Machine

theorem AllReset.head {n : Nat} {s : State} (h : AllReset (n + 1) s) : s.nextInput.rst = true :=
  h 0 n.succ_pos s rfl

theorem AllReset.tail {n : Nat} {s u : State} (h : AllReset (n + 1) s) (hstep : step s = .next u) : AllReset n u :=
  fun k hk t hrun => h (k + 1) (Nat.succ_lt_succ hk) t (run_succ_iff.2 ⟨u, hstep, hrun⟩)

/-- The reset state of the same build after `n` cycles of the environment. -/
def State.resetAfter (n : Nat) (s : State) : State :=
  { State.resetWith s.cfg with pending := s.pending.drop n, cycle := s.cycle + n }

theorem resetAfter_one (s : State) : s.resetAfter 1 = s.resetCycle := by
  simp [State.resetAfter, State.resetCycle]

/-- A reset cycle forgets all of the block's state, so that a later one finds nothing of it to clear. -/
theorem resetAfter_resetCycle (n : Nat) (s : State) : s.resetCycle.resetAfter n = s.resetAfter (n + 1) := by
  simp [State.resetAfter, Nat.add_right_comm, Nat.add_assoc]

theorem run_of_allReset {n : Nat} {s : State} (h : AllReset (n + 1) s) : run (n + 1) s = .next (s.resetAfter (n + 1)) := by
  induction n generalizing s with
  | zero => rw [resetAfter_one, run_one (step_of_reset s h.head)]
  | succ n ih =>
    have hstep := step_of_reset s h.head
    rw [← resetAfter_resetCycle]
    exact run_succ_iff.2 ⟨_, hstep, ih (h.tail hstep)⟩

/-- Settles O8: `run_of_allReset`, and the outputs of the reset state. -/
theorem resetOverridesTheCycle : Obligations.ResetOverridesTheCycle := fun n s hrst =>
  ⟨s.resetAfter (n + 1), run_of_allReset hrst, rfl, rfl, rfl, rfl, rfl, rfl, rfl⟩

theorem image_reset : Status.reset.image = 0#32 := rfl

/-- Settles O9: STATUS by its word, each other register and each piece of hidden state by its own field. -/
theorem resetValues : Obligations.ResetValues := by
  refine ⟨fun r => ?_, rfl, rfl, rfl, rfl, rfl, rfl, rfl, rfl, rfl, rfl⟩
  cases r
  case status => exact image_reset
  all_goals rfl

/-- CLK_PER_US is one more than a free number, so that the prescaler's 0 is in its range (00_scope.md R6). -/
theorem reset_timeOk : State.reset.timeOk := ⟨Nat.succ_pos _, Nat.succ_pos _⟩

/-- Settles O40: the reading's and the controller's invariants read fields that a reset cycle and the reset state share. -/
theorem resetMeetsTheInvariants : Obligations.ResetMeetsTheInvariants :=
  ⟨reset_timeOk, acquisitionOk_of_idle rfl (Nat.zero_le _), resetCycle_readingOk State.reset,
    resetCycle_controllerOk State.reset⟩

end Sys2Proof.Machine
end
